-- ==== Sys2Proof/Word.lean ====
section
/-!
DEFINITION. The bit-vector types of the block: the byte, the operation word, the ADC code, the channel number and the
register address (00_scope.md R8, R9; 30_encoding.md R70, R72, R73).
-/

namespace Sys2Proof

/-- An 8-bit pattern: a ring entry, a register, an operand byte (R9). -/
abbrev Byte := BitVec 8

/-- The 16-bit operation word of `op_word[15:0]` (R70). -/
abbrev OpWord := BitVec 16

/-- The 10-bit unsigned ADC code of a SAMPLE word (R8 `ADC_BITS`, R72). -/
abbrev AdcCode := BitVec 10

/-- The 7-bit channel number INITREG.CHAN (R37). -/
abbrev Channel := BitVec 7

/-- The 4-bit register address field ADDR (R73, R74). -/
abbrev RegAddr := BitVec 4

end Sys2Proof
end

