-- ==== Sys2Proof/Config.lean ====
section
/-!
DEFINITION. What an implementation fixes: the constants and the parameters of 00_scope.md R8.
`NCHAN` and `DAC_MASK` are parameters "a model takes as an argument with the stated default": they are plain data that
State carries and no operation changes (assumption log 2). `N` is fixed at 32 and is the length in `State.ring`'s type. The spec leaves no value free, so there is no opaque constant.
-/

namespace Sys2Proof

/-- `ADC_MID`, the midpoint the block subtracts from the ADC code (R8, R101). -/
def adcMid : Int := 512

/-- `RESET_FILL`, the byte every ring entry holds after reset, read as -128 (R8, R21). -/
def ringFill : Byte := 0x80

/-- The parameters of R8 whose values the source leaves to the implementation. -/
structure Params where
  /-- `NCHAN`, the number of supported ADC channels (R8, R182; legal 1 to 128). -/
  nchan : Nat
  /-- `DAC_MASK`, the port bits the compare-match strategy drives (R8, R142). -/
  dacMask : Byte
  deriving DecidableEq, Repr

/-- The defaults R8 states: NCHAN 8, DAC_MASK 0xF0. -/
def Params.default : Params := { nchan := 8, dacMask := 0xF0 }

/-- The legal values R8 lists for `DAC_MASK`: runs of ones from bit 7 down. -/
def legalDacMasks : List Byte := [0x80, 0xC0, 0xE0, 0xF0, 0xF8, 0xFC, 0xFE, 0xFF]

/-- The parameters are within the legal values of R8. -/
abbrev Params.Legal (p : Params) : Prop :=
  1 ≤ p.nchan ∧ p.nchan ≤ 128 ∧ p.dacMask ∈ legalDacMasks

end Sys2Proof
end

