-- ==== Sys2Proof/Machine/State.lean ====
section
/-!
DEFINITION. The state of one TNC1-AFE (10_state.md R20), its output registers (R45, R241), the input pins still to come,
the reasons a step can stop (none but a missing meaning), and the state right after reset (70_reset_and_hazards.md R240).
-/

namespace Sys2Proof.Machine

/-- The PTT state machine's state, STATUS.MODE (R29): 0 = Receiving, 1 = Transmitting. -/
inductive Mode where
  | receiving
  | transmitting
  deriving DecidableEq, Repr

/-- The transmit strategy, CONFIG.STRAT (R36): 0 = pulse-width, 1 = compare-match. -/
inductive Strategy where
  | pulseWidth
  | compareMatch
  deriving DecidableEq, Repr

/-- The sticky error conditions of 60_exceptions.md R210, each recorded in the STATUS bit of its name. -/
inductive ErrorFlag where
  /-- bit 5: START_TX, STOP_TX or INIT out of order (R211). -/
  | protoErr
  /-- bit 6: an illegal word (R212). -/
  | illErr
  /-- bit 7: INIT with an unsupported channel (R213). -/
  | fatal
  deriving DecidableEq, Repr

/-- The values of the block's input pins at one rising edge of `clk` (R45). -/
structure PinsIn where
  /-- `rst`, synchronous, active high (R240). -/
  rst : Bool
  /-- `strat_sel`, sampled in a reset cycle only (R245). -/
  stratSel : Bool
  /-- `op_valid`. -/
  opValid : Bool
  /-- `op_word[15:0]` (R70). -/
  opWord : BitVec 16
  deriving DecidableEq, Repr

/-- A cycle in which nothing is presented: `rst` = 0 and `op_valid` = 0 (R202). -/
def PinsIn.idle : PinsIn := { rst := false, stratSel := false, opValid := false, opWord := 0 }

/-- A cycle that presents one operation word (R70). -/
def PinsIn.word (w : BitVec 16) : PinsIn := { rst := false, stratSel := false, opValid := true, opWord := w }

/-- A cycle of reset with the strap at `strat_sel` (R240). -/
def PinsIn.reset (stratSel : Bool) : PinsIn := { rst := true, stratSel := stratSel, opValid := false, opWord := 0 }

/-- The state of the block between two rising edges of `clk`. -/
structure State where
  /-- RING[0..31], 8-bit two's-complement attenuated samples (R21). -/
  ring : Vector (BitVec 8) 32
  /-- POS, the 5-bit write cursor: the oldest entry (R22). -/
  pos : Fin 32
  /-- GAIN, the attenuation shift (R24). -/
  gain : BitVec 8
  /-- THRESH, the squelch threshold (R25). -/
  thresh : BitVec 8
  /-- PTP, the last peak-to-peak value (R26). -/
  ptp : BitVec 8
  /-- COND, the last conditioned sample, two's complement (R27). -/
  cond : BitVec 8
  /-- STATUS.MODE (R29). -/
  mode : Mode
  /-- STATUS.CARRIER (R30). -/
  carrier : Bool
  /-- STATUS.PTT (R31). -/
  ptt : Bool
  /-- STATUS.ADC_EN (R32). -/
  adcEn : Bool
  /-- STATUS.OUT_EN (R33). -/
  outEn : Bool
  /-- STATUS.PROTO_ERR (R34). -/
  protoErr : Bool
  /-- STATUS.ILL_ERR (R34). -/
  illErr : Bool
  /-- STATUS.FATAL (R35). -/
  fatal : Bool
  /-- CONFIG.STRAT (R36). -/
  strat : Strategy
  /-- INITREG.INITED (R37). -/
  inited : Bool
  /-- INITREG.CHAN (R37). -/
  chan : BitVec 7
  /-- DUTY, the pulse-width duty value (R38). -/
  duty : BitVec 8
  /-- PORT, the parallel output port (R39). -/
  port : BitVec 8
  /-- The `rvalid` output: a REG_READ was answered in the previous cycle (R45, R252). -/
  rvalid : Bool
  /-- The `rdata` output, which holds its last value while `rvalid` is 0 (R45). -/
  rdata : BitVec 8
  /-- The `cond_valid` output: a SAMPLE was processed in the previous cycle (R45, R252). -/
  condValid : Bool
  /-- The `cond_out` output, which holds its last value while `cond_valid` is 0 (R45). -/
  condOut : BitVec 8
  /-- The `carrier_edge` output: that SAMPLE changed STATUS.CARRIER (R45, R109). -/
  carrierEdge : Bool
  /-- The parameters NCHAN and DAC_MASK of this block (R8): no operation changes them (assumption log 2). -/
  params : Params
  /-- The model's own: the input pins of the coming cycles, next cycle first, as the external arbiter orders them (R60).
  After the list's end every cycle is idle (assumption log 1). -/
  inputs : List PinsIn
  deriving DecidableEq, Repr

/-- The reasons the block stops with a fault. There is none: "The block raises no exception and takes no trap" (R210),
and "no outcome is a hang, a trap or a nondeterministic choice" (R202). An error sets a STATUS flag and the block goes on. -/
inductive Fault where
  deriving DecidableEq, Repr

/-- The reasons the model has no meaning for an instruction. -/
inductive Refusal where
  /-- Raised by an arm of `exec` whose instruction has no meaning yet. Safe: the model stops where the block goes on.
  No arm raises it: every row of the opcode table has its meaning. -/
  | notModelled (mnemonic : String)
  deriving DecidableEq, Repr

/-- The strap value as a strategy (R36): 0 = pulse-width, 1 = compare-match. -/
def Strategy.ofStrap (stratSel : Bool) : Strategy := if stratSel then .compareMatch else .pulseWidth

/-- The state in the cycle after a reset edge: the reset column of R20, CONFIG.STRAT from the strap, every event output 0
and `rdata` and `cond_out` 0x00 (R240, R241). The parameters and the inputs still to come are not state of the block that
reset touches. -/
def State.afterReset (params : Params) (strat : Strategy) (inputs : List PinsIn) : State :=
  { ring := Vector.replicate 32 ringFill, pos := 0,
    gain := 0x00, thresh := 0x00, ptp := 0x00, cond := 0x00,
    mode := .receiving, carrier := false, ptt := false, adcEn := false, outEn := false,
    protoErr := false, illErr := false, fatal := false,
    strat := strat, inited := false, chan := 0, duty := 0x80, port := 0x00,
    rvalid := false, rdata := 0x00, condValid := false, condOut := 0x00, carrierEdge := false,
    params := params, inputs := inputs }

/-- The machine right after reset, with the default parameters of R8, `strat_sel` = 0 at the reset edge (assumption
log 3) and no input presented yet. -/
def State.reset : State := State.afterReset Params.default .pulseWidth []

end Sys2Proof.Machine
end

