-- ==== Sys2Proof/Machine/Ops.lean ====
section
/-!
DEFINITION. The named operations over the state: the clock cycle's beginning, reset, the halted gate, recording an error,
the event outputs, the ring write and the mode changes. The block has no trap (60_exceptions.md R218): what other
machines do by taking an exception, this one does by `State.setFlag`.
-/

namespace Sys2Proof.Machine

/-- The outcome of one operation. -/
abbrev Result := Host.Outcome State Fault Refusal

/-- The input pins at the next rising edge: the next of the inputs, or an idle cycle when none is left. -/
def State.pins (s : State) : PinsIn :=
  match s.inputs with
  | [] => PinsIn.idle
  | p :: _ => p

/-- The beginning of a cycle: its pins are consumed, and the event outputs of the previous operation end, since they are 1
"for exactly one cycle"; `rdata` and `cond_out` hold their values (R45). -/
def State.beginCycle (s : State) : State :=
  { s with inputs := s.inputs.tail, rvalid := false, condValid := false, carrierEdge := false }

/-- A reset edge (R240, R245): every piece of state takes its reset value and CONFIG.STRAT is loaded from the strap. -/
def State.applyReset (stratSel : Bool) (s : State) : State :=
  State.afterReset s.params (Strategy.ofStrap stratSel) s.inputs

/-- `w` presented on the operation port in the very next cycle, before the inputs already waiting. -/
def State.present (w : BitVec 16) (s : State) : State := { s with inputs := PinsIn.word w :: s.inputs }

/-- The halted gate (R214): while STATUS.FATAL = 1 an operation changes nothing; otherwise it gives `after`. -/
def State.unlessHalted (s after : State) : State := if s.fatal then s else after

/-- Recording an error (R12 `set_flag`, R210): the STATUS bit of the condition is set and nothing else changes. -/
def State.setFlag (c : ErrorFlag) (s : State) : State :=
  match c with
  | .protoErr => { s with protoErr := true }
  | .illErr => { s with illErr := true }
  | .fatal => { s with fatal := true }

/-- The return from an error: PROTO_ERR and ILL_ERR are cleared, FATAL is not (R184, R219). -/
def State.clearErrors (s : State) : State := { s with protoErr := false, illErr := false }

/-- `emit rd(v)` (R12, R46, R252). -/
def State.emitRd (v : BitVec 8) (s : State) : State := { s with rvalid := true, rdata := v }

/-- `emit cond(cond_out, carrier, carrier_edge)` (R12, R46, R252); the `carrier` of the record is the level pin. -/
def State.emitCond (condOut : BitVec 8) (edge : Bool) (s : State) : State :=
  { s with condValid := true, condOut := condOut, carrierEdge := edge }

/-- The ring write: `RING[POS] <- att; POS <- (POS + 1) mod 32` (R110). -/
def State.pushSample (att : BitVec 8) (s : State) : State :=
  { s with ring := s.ring.set s.pos att, pos := s.pos + 1 }

/-- The registers one accepted SAMPLE records: PTP, STATUS.CARRIER and COND (R111). -/
def State.recordSample (ptp cond : BitVec 8) (carrier : Bool) (s : State) : State :=
  { s with ptp := ptp, carrier := carrier, cond := cond }

/-- Keying the transmitter (R160): PTT, MODE and OUT_EN are set; ADC_EN is cleared under the pulse-width strategy only. -/
def State.keyTransmitter (s : State) : State :=
  { s with
    ptt := true, mode := .transmitting, outEn := true,
    adcEn := match s.strat with
      | .pulseWidth => false
      | .compareMatch => s.adcEn }

/-- Unkeying the transmitter (R162): PTT, MODE and OUT_EN are cleared and ADC_EN is set. -/
def State.unkeyTransmitter (s : State) : State :=
  { s with ptt := false, mode := .receiving, outEn := false, adcEn := true }

/-- Binding the sampling source (R182): CHAN and INITED are written and sampling starts. -/
def State.bindChannel (chan : BitVec 7) (s : State) : State :=
  { s with chan := chan, inited := true, adcEn := true }

/-- The output pins of R45, as they stand in the cycle after the last operation (R252). -/
structure PinsOut where
  rvalid : Bool
  rdata : BitVec 8
  condValid : Bool
  condOut : BitVec 8
  carrierEdge : Bool
  carrier : Bool
  ptt : Bool
  adcRun : Bool
  adcChan : BitVec 7
  tmrIrqEn : Bool
  pwmDuty : BitVec 8
  portOut : BitVec 8
  fatal : Bool
  deriving DecidableEq, Repr

/-- The level outputs show the registers, the event outputs the last operation's events (R45). -/
def State.pinsOut (s : State) : PinsOut :=
  { rvalid := s.rvalid, rdata := s.rdata, condValid := s.condValid, condOut := s.condOut,
    carrierEdge := s.carrierEdge, carrier := s.carrier, ptt := s.ptt, adcRun := s.adcEn, adcChan := s.chan,
    tmrIrqEn := s.outEn, pwmDuty := s.duty, portOut := s.port, fatal := s.fatal }

end Sys2Proof.Machine
end

