-- ==== Sys2Proof/Machine/Operands.lean ====
section
/-!
DEFINITION. The operand forms and the arithmetic of 00_scope.md R11: the attenuation of an ADC code (40_capture.md R101),
the DC filter's scan of the ring (R103 to R107), the channel operand of INIT (R75, R182) and the two masked writes of PORT
(R142, R188). Values are exact integers and are narrowed once, where they are stored (R11, R12).
-/

namespace Sys2Proof.Machine

/-- `asr(v, g) = floor(v / 2^g)` for every natural g (R11): Lean's integer division by a positive divisor rounds down. -/
def asr (v : Int) (g : Nat) : Int := v / 2 ^ g

/-- `clamp(v, lo, hi) = min(hi, max(lo, v))` (R11). -/
def clamp (v lo hi : Int) : Int := min hi (max lo v)

/-- `s8(v)`: the 8-bit two's-complement reading of v mod 256 (R11). -/
def s8 (v : Int) : Int := (BitVec.ofInt 8 v).toInt

/-- `u8(v)`: v mod 256 (R11). -/
def u8 (v : Int) : Nat := (BitVec.ofInt 8 v).toNat

/-- The zero-centred raw sample `zext(adc) - ADC_MID` (R75, R101). -/
def rawSample (adc : BitVec 10) : Int := (adc.toNat : Int) - adcMid

/-- The attenuation of R101 as an integer. -/
def attenuate (raw : Int) (gain : Nat) : Int := clamp (asr raw gain) (-128) 127

/-- The byte an accepted SAMPLE writes into the ring (R101, R110). -/
def attenuatedByte (adc : BitVec 10) (gain : BitVec 8) : BitVec 8 :=
  BitVec.ofInt 8 (attenuate (rawSample adc) gain.toNat)

/-- The ring's entries as two's-complement integers, in index order (R103). -/
def ringValues (r : Vector (BitVec 8) 32) : List Int := r.toList.map BitVec.toInt

/-- `sum` of R103. -/
def ringSum (r : Vector (BitVec 8) 32) : Int := (ringValues r).foldr (· + ·) 0

/-- `mn` of R103. Folding from 127 changes nothing, since no 8-bit entry exceeds it. -/
def ringMin (r : Vector (BitVec 8) 32) : Int := (ringValues r).foldr min 127

/-- `mx` of R103. Folding from -128 changes nothing, since no 8-bit entry is below it. -/
def ringMax (r : Vector (BitVec 8) 32) : Int := (ringValues r).foldr max (-128)

/-- The bias, `asr(sum, 5)` (R104). -/
def ringBias (r : Vector (BitVec 8) 32) : Int := asr (ringSum r) 5

/-- The peak-to-peak value, `mx - mn` (R105). -/
def ringPtp (r : Vector (BitVec 8) 32) : Int := ringMax r - ringMin r

/-- The peak-to-peak value in its 8-bit register (R105). -/
def ptpByte (r : Vector (BitVec 8) 32) : BitVec 8 := BitVec.ofInt 8 (ringPtp r)

/-- The exact difference `RING[POS] - bias` (R106). -/
def dcDifference (r : Vector (BitVec 8) 32) (pos : Fin 32) : Int := r[pos].toInt - ringBias r

/-- The conditioned sample `s8(diff)` as a register's byte (R107). -/
def condByte (r : Vector (BitVec 8) 32) (pos : Fin 32) : BitVec 8 := BitVec.ofInt 8 (dcDifference r pos)

/-- INIT's comparison of its channel operand with NCHAN, "before any truncation" (R75, R182). -/
def channelSupported (chan : BitVec 8) (p : Params) : Bool := chan.toNat < p.nchan

/-- `chan[6:0]` (R182). -/
def channelField (chan : BitVec 8) : BitVec 7 := chan.extractLsb' 0 7

/-- TICK's write of PORT: the DAC_MASK bits from `byte`, the others kept (R142). -/
def portFromTick (mask port byte : BitVec 8) : BitVec 8 := (port &&& ~~~mask) ||| (byte &&& mask)

/-- The host's write of PORT: the DAC_MASK bits kept, the others from `v` (R188). -/
def portFromHost (mask port v : BitVec 8) : BitVec 8 := (port &&& mask) ||| (v &&& ~~~mask)

end Sys2Proof.Machine
end

