-- ==== Sys2Proof/Machine/Flags.lean ====
section
/-!
DEFINITION. The STATUS bits: the squelch comparison and its transition (40_capture.md R108, R109), and the registers as
the host reads them (30_encoding.md R76; 10_state.md R28, R36, R37).
-/

namespace Sys2Proof.Machine

/-- The squelch comparison `ptp >= THRESH`, unsigned and stateless (R108). -/
def carrierFor (ptp thresh : BitVec 8) : Bool := thresh.toNat ≤ ptp.toNat

/-- The carrier transition `car ^ STATUS.CARRIER` (R109). -/
def carrierTransition (car old : Bool) : Bool := xor car old

/-- STATUS.MODE as a bit (R28). -/
def Mode.bit : Mode → Bool
  | .receiving => false
  | .transmitting => true

/-- CONFIG.STRAT as a bit (R36). -/
def Strategy.bit : Strategy → Bool
  | .pulseWidth => false
  | .compareMatch => true

/-- STATUS, `{FATAL, ILL_ERR, PROTO_ERR, OUT_EN, ADC_EN, PTT, CARRIER, MODE}` (R28, R76). -/
def State.statusByte (s : State) : BitVec 8 :=
  BitVec.ofBool s.fatal ++ BitVec.ofBool s.illErr ++ BitVec.ofBool s.protoErr ++ BitVec.ofBool s.outEn ++
    BitVec.ofBool s.adcEn ++ BitVec.ofBool s.ptt ++ BitVec.ofBool s.carrier ++ BitVec.ofBool s.mode.bit

/-- INITREG, `{INITED, CHAN[6:0]}` (R37, R76). -/
def State.initByte (s : State) : BitVec 8 := BitVec.ofBool s.inited ++ s.chan

/-- CONFIG, `{0000000, STRAT}` (R36, R76). -/
def State.configByte (s : State) : BitVec 8 := 0#7 ++ BitVec.ofBool s.strat.bit

/-- `RegRead(a)`, the "read" column of R76: CMD and the reserved addresses read as 0x00. -/
def State.regRead (s : State) (a : BitVec 4) : BitVec 8 :=
  match a with
  | 0x1#4 => s.initByte
  | 0x2#4 => s.gain
  | 0x3#4 => s.thresh
  | 0x4#4 => s.statusByte
  | 0x5#4 => s.ptp
  | 0x6#4 => s.configByte
  | 0x7#4 => s.duty
  | 0x8#4 => s.port
  | 0x9#4 => s.cond
  | _ => 0x00#8

end Sys2Proof.Machine
end

