-- ==== Sys2Proof/Machine/Capture.lean ====
section
/-!
DEFINITION. SAMPLE: attenuation, DC filter, squelch and the capture sequence (40_capture.md).
-/

namespace Sys2Proof.Machine

/-- An accepted SAMPLE (R111). Every value comes from the ring before this sample is written, and all writes take effect
together (R58). -/
def State.acceptSample (adc : BitVec 10) (s : State) : State :=
  let ptp := ptpByte s.ring
  let cond := condByte s.ring s.pos
  let car := carrierFor ptp s.thresh
  let edge := carrierTransition car s.carrier
  (((s.pushSample (attenuatedByte adc s.gain)).recordSample ptp cond car).emitCond cond edge)

/-- SAMPLE (R100): ignored while halted, dropped while ADC_EN = 0, else processed. -/
def execSample (adc : BitVec 10) (s : State) : Result :=
  .next (s.unlessHalted (if s.adcEn then s.acceptSample adc else s))

end Sys2Proof.Machine
end

