-- ==== Sys2Proof/Syntax.lean ====
section
/-!
DEFINITION. The operations of the block: one constructor per row of spec/opcode_table.json (30_encoding.md R80), its
operands the variable fields of that row at their exact widths (R72, R73, R75).
-/

namespace Sys2Proof

/-- The named operations of R80. ILLEGAL and ILLEGAL_READ are no rows of the table: they are results of decoding
(`Decoded`, R78) with an effect of their own (R200, R201). -/
inductive Instr where
  /-- NOP (R180): the idle word. -/
  | nop
  /-- SAMPLE (R100, R111): the sampling event with its 10-bit unsigned ADC code. -/
  | sample (adc : AdcCode)
  /-- TICK (R140 to R142): the output event with the encoder's byte. -/
  | tick (byte : Byte)
  /-- START_TX (R160, R161). -/
  | startTx
  /-- STOP_TX (R162, R163). -/
  | stopTx
  /-- CLR_ERR (R184). -/
  | clrErr
  /-- INIT (R182, R183) with the 8-bit channel operand, not yet compared with NCHAN (R75). -/
  | init (chan : Byte)
  /-- WR_GAIN (R186). -/
  | wrGain (v : Byte)
  /-- WR_THRESH (R187). -/
  | wrThresh (v : Byte)
  /-- WR_PORT (R188). -/
  | wrPort (v : Byte)
  /-- RD_CMD (R190). -/
  | rdCmd
  /-- RD_INIT (R191). -/
  | rdInit
  /-- RD_GAIN (R192). -/
  | rdGain
  /-- RD_THRESH (R193). -/
  | rdThresh
  /-- RD_STATUS (R194). -/
  | rdStatus
  /-- RD_PTP (R195). -/
  | rdPtp
  /-- RD_CONFIG (R196). -/
  | rdConfig
  /-- RD_DUTY (R197). -/
  | rdDuty
  /-- RD_PORT (R198). -/
  | rdPort
  /-- RD_COND (R199). -/
  | rdCond
  deriving DecidableEq, Repr

end Sys2Proof
end

