-- ==== Sys2Proof/WellFormed.lean ====
section
/-!
DEFINITION. Well-formedness. An `Instr` carries each operand at the exact width its field has, so no `Instr` is
ill-formed: every value of every field is an encoding of R80 (an INIT channel at or above NCHAN "assembles and is fatal
when run", R84). What can be ill-formed is a line of assembler source, whose operands are numbers of any size: `SourceOp`
is the source line of R84 and R85, and `SourceOp.wellFormed` is the operand range of R84 ("An operand outside its range is
an assembly error, not a word").
-/

namespace Sys2Proof

/-- One operation of assembler source as it is written, its operands not yet checked (R84, R85). -/
inductive SourceOp where
  | nop
  | sample (adc : Nat)
  | tick (byte : Nat)
  | startTx
  | stopTx
  | clrErr
  | init (chan : Nat)
  | wrGain (v : Nat)
  | wrThresh (v : Nat)
  | wrPort (v : Nat)
  | rdCmd
  | rdInit
  | rdGain
  | rdThresh
  | rdStatus
  | rdPtp
  | rdConfig
  | rdDuty
  | rdPort
  | rdCond
  /-- `WR addr, data`: the generic write, which "may assemble an illegal word" (R84). -/
  | wr (addr data : Nat)
  /-- `RD addr`: the generic read, which "may assemble an illegal word" (R84). -/
  | rd (addr : Nat)
  /-- `.word w`: any word, legal or not (R84). -/
  | word (w : Nat)
  /-- `SAMPLE_RAW r`: a zero-centred raw value (R85). -/
  | sampleRaw (r : Int)
  /-- `REPEAT k, op` (R85). DESIGN CHOICE (assumption log 12): R85 does not say which lines `op` may be; here it may be any
  source operation, another REPEAT among them. -/
  | rept (k : Nat) (op : SourceOp)
  deriving DecidableEq, Repr

/-- The operand ranges of R84 and R85. -/
def SourceOp.wellFormed : SourceOp → Bool
  | .sample adc => adc ≤ 1023
  | .tick byte => byte ≤ 255
  | .init chan => chan ≤ 255
  | .wrGain v => v ≤ 255
  | .wrThresh v => v ≤ 255
  | .wrPort v => v ≤ 255
  | .wr addr data => addr ≤ 15 && data ≤ 255
  | .rd addr => addr ≤ 15
  | .word w => w ≤ 0xFFFF
  | .sampleRaw r => -512 ≤ r && r ≤ 511
  | .rept k op => 1 ≤ k && op.wellFormed
  | .nop => true
  | .startTx => true
  | .stopTx => true
  | .clrErr => true
  | .rdCmd => true
  | .rdInit => true
  | .rdGain => true
  | .rdThresh => true
  | .rdStatus => true
  | .rdPtp => true
  | .rdConfig => true
  | .rdDuty => true
  | .rdPort => true
  | .rdCond => true

end Sys2Proof
end

