-- ==== Sys2Proof/Decode.lean ====
section
/-!
DEFINITION. The decoder of 30_encoding.md R79, total on all 65,536 words, and after it the encoder, written from the
formats of R72 to R74 and the register map of R76, and the opcode map of R80 as data.
-/

namespace Sys2Proof

/-- Why a word is ILLEGAL: the classes (a) to (g) of R81. -/
inductive IllegalWord where
  /-- (a) OPC 0x5 to 0xF. -/
  | reservedClass
  /-- (b) OPC 0x0 with a nonzero payload. -/
  | nopPayload
  /-- (c) OPC 0x1 with `w[11:10]` nonzero. -/
  | samplePayload
  /-- (d) OPC 0x2 with `w[11:8]` nonzero. -/
  | tickPayload
  /-- (e) a CMD code other than 0x01, 0x02, 0x03. -/
  | unknownCommand
  /-- (f) a write to STATUS, PTP, CONFIG, DUTY or COND. -/
  | readOnlyRegister
  /-- (g) a write to a reserved address 0xA to 0xF. -/
  | reservedAddress
  deriving DecidableEq, Repr

/-- Why a word is ILLEGAL_READ: the classes (h) and (i) of R81. -/
inductive IllegalRead where
  /-- (h) OPC 0x4 with `w[7:0]` nonzero, at any address. -/
  | payload
  /-- (i) OPC 0x4 with `w[7:0]` zero at a reserved address 0xA to 0xF. -/
  | reservedAddress
  deriving DecidableEq, Repr

/-- What a word decodes to: "exactly one of: a named operation of rule R80, ILLEGAL (no response) or ILLEGAL_READ (a
read response of 0x00)" (R78), with the class of R81 that names the rejection. -/
inductive Decoded where
  | op (i : Instr)
  | illegal (why : IllegalWord)
  | illegalRead (why : IllegalRead)
  deriving DecidableEq, Repr

/-- OPC, bits 15:12 (R70). -/
def opcField (w : OpWord) : BitVec 4 := w.extractLsb' 12 4

/-- ADDR, bits 11:8 of formats W and R (R73, R74). -/
def addrField (w : OpWord) : RegAddr := w.extractLsb' 8 4

/-- DATA or BYTE, bits 7:0 (R72, R73). -/
def dataField (w : OpWord) : Byte := w.extractLsb' 0 8

/-- ADC, bits 9:0 of format S (R72). -/
def adcField (w : OpWord) : AdcCode := w.extractLsb' 0 10

/-- The "must be 0" bits 11:10 of format S (R72). -/
def sampleZeros (w : OpWord) : BitVec 2 := w.extractLsb' 10 2

/-- The payload, bits 11:0 (R70). -/
def payloadField (w : OpWord) : BitVec 12 := w.extractLsb' 0 12

/-- The CMD codes of R77: what a REG_WRITE of `d` to address 0x0 decodes to. -/
def decodeCommand (d : Byte) : Decoded :=
  match d with
  | 0x01#8 => .op .startTx
  | 0x02#8 => .op .stopTx
  | 0x03#8 => .op .clrErr
  | _ => .illegal .unknownCommand

/-- OPC 0x3, REG_WRITE (R79, "write" column of R76). -/
def decodeWrite (addr : RegAddr) (d : Byte) : Decoded :=
  match addr with
  | 0x0#4 => decodeCommand d
  | 0x1#4 => .op (.init d)
  | 0x2#4 => .op (.wrGain d)
  | 0x3#4 => .op (.wrThresh d)
  | 0x8#4 => .op (.wrPort d)
  | 0x4#4 => .illegal .readOnlyRegister
  | 0x5#4 => .illegal .readOnlyRegister
  | 0x6#4 => .illegal .readOnlyRegister
  | 0x7#4 => .illegal .readOnlyRegister
  | 0x9#4 => .illegal .readOnlyRegister
  | _ => .illegal .reservedAddress

/-- OPC 0x4, REG_READ (R79, "read" column of R76): the payload is checked before the address. -/
def decodeRead (addr : RegAddr) (d : Byte) : Decoded :=
  if d ≠ 0#8 then .illegalRead .payload else
  match addr with
  | 0x0#4 => .op .rdCmd
  | 0x1#4 => .op .rdInit
  | 0x2#4 => .op .rdGain
  | 0x3#4 => .op .rdThresh
  | 0x4#4 => .op .rdStatus
  | 0x5#4 => .op .rdPtp
  | 0x6#4 => .op .rdConfig
  | 0x7#4 => .op .rdDuty
  | 0x8#4 => .op .rdPort
  | 0x9#4 => .op .rdCond
  | _ => .illegalRead .reservedAddress

/-- The decoder of R79. It depends on the word alone, never on state (R78, R83). -/
def decode (w : OpWord) : Decoded :=
  match opcField w with
  | 0x0#4 => if payloadField w = 0#12 then .op .nop else .illegal .nopPayload
  | 0x1#4 => if sampleZeros w = 0#2 then .op (.sample (adcField w)) else .illegal .samplePayload
  | 0x2#4 => if addrField w = 0#4 then .op (.tick (dataField w)) else .illegal .tickPayload
  | 0x3#4 => decodeWrite (addrField w) (dataField w)
  | 0x4#4 => decodeRead (addrField w) (dataField w)
  | _ => .illegal .reservedClass

/-- The instruction the decoder reads from the table's word `w` of `nbits` bits; the bits above `nbits` are 0. Every
operation is one 16-bit word (R70), taken in parallel, so no byte order is involved (R52). -/
def decodeTableWord (nbits w : Nat) : Option Instr :=
  match decode (BitVec.ofNat 16 (w % 2 ^ nbits)) with
  | .op i => some i
  | .illegal _ => none
  | .illegalRead _ => none

/-- Format W: OPC 0x3, ADDR, DATA (R73). -/
def writeWord (addr : RegAddr) (d : Byte) : OpWord := 0x3#4 ++ addr ++ d

/-- Format R: OPC 0x4, ADDR, zeros (R74). -/
def readWord (addr : RegAddr) : OpWord := 0x4#4 ++ addr ++ 0x00#8

/-- The word of an instruction (R72 to R77). -/
def encode : Instr → OpWord
  | .nop => 0x0000
  | .sample adc => 0x1#4 ++ 0#2 ++ adc
  | .tick byte => 0x2#4 ++ 0#4 ++ byte
  | .startTx => writeWord 0x0 0x01
  | .stopTx => writeWord 0x0 0x02
  | .clrErr => writeWord 0x0 0x03
  | .init chan => writeWord 0x1 chan
  | .wrGain v => writeWord 0x2 v
  | .wrThresh v => writeWord 0x3 v
  | .wrPort v => writeWord 0x8 v
  | .rdCmd => readWord 0x0
  | .rdInit => readWord 0x1
  | .rdGain => readWord 0x2
  | .rdThresh => readWord 0x3
  | .rdStatus => readWord 0x4
  | .rdPtp => readWord 0x5
  | .rdConfig => readWord 0x6
  | .rdDuty => readWord 0x7
  | .rdPort => readWord 0x8
  | .rdCond => readWord 0x9

/-- One row of the opcode map: a word belongs to it when `w &&& mask = pattern` (R80). -/
structure OpcodeRow where
  mnemonic : String
  pattern : OpWord
  mask : OpWord
  deriving DecidableEq, Repr

/-- The word `w` lies in the row. -/
def OpcodeRow.covers (r : OpcodeRow) (w : OpWord) : Bool := w &&& r.mask == r.pattern

/-- The opcode map of R80, row by row in its order. -/
def opcodeMap : List OpcodeRow :=
  [⟨"NOP", 0x0000, 0xFFFF⟩, ⟨"SAMPLE", 0x1000, 0xFC00⟩, ⟨"TICK", 0x2000, 0xFF00⟩,
   ⟨"START_TX", 0x3001, 0xFFFF⟩, ⟨"STOP_TX", 0x3002, 0xFFFF⟩, ⟨"CLR_ERR", 0x3003, 0xFFFF⟩,
   ⟨"INIT", 0x3100, 0xFF00⟩, ⟨"WR_GAIN", 0x3200, 0xFF00⟩, ⟨"WR_THRESH", 0x3300, 0xFF00⟩,
   ⟨"WR_PORT", 0x3800, 0xFF00⟩] ++
  [⟨"RD_CMD", 0x4000, 0xFFFF⟩, ⟨"RD_INIT", 0x4100, 0xFFFF⟩, ⟨"RD_GAIN", 0x4200, 0xFFFF⟩,
   ⟨"RD_THRESH", 0x4300, 0xFFFF⟩, ⟨"RD_STATUS", 0x4400, 0xFFFF⟩, ⟨"RD_PTP", 0x4500, 0xFFFF⟩,
   ⟨"RD_CONFIG", 0x4600, 0xFFFF⟩, ⟨"RD_DUTY", 0x4700, 0xFFFF⟩, ⟨"RD_PORT", 0x4800, 0xFFFF⟩,
   ⟨"RD_COND", 0x4900, 0xFFFF⟩]

/-- The mnemonic of an instruction, as spec/opcode_table.json spells it. -/
def Instr.mnemonic : Instr → String
  | .nop => "NOP"
  | .sample _ => "SAMPLE"
  | .tick _ => "TICK"
  | .startTx => "START_TX"
  | .stopTx => "STOP_TX"
  | .clrErr => "CLR_ERR"
  | .init _ => "INIT"
  | .wrGain _ => "WR_GAIN"
  | .wrThresh _ => "WR_THRESH"
  | .wrPort _ => "WR_PORT"
  | .rdCmd => "RD_CMD"
  | .rdInit => "RD_INIT"
  | .rdGain => "RD_GAIN"
  | .rdThresh => "RD_THRESH"
  | .rdStatus => "RD_STATUS"
  | .rdPtp => "RD_PTP"
  | .rdConfig => "RD_CONFIG"
  | .rdDuty => "RD_DUTY"
  | .rdPort => "RD_PORT"
  | .rdCond => "RD_COND"

end Sys2Proof
end

