-- ==== Sys2Proof/Machine/HostIf.lean ====
section
/-!
DEFINITION. The host operations: NOP, INIT, CLR_ERR, the register writes and reads, and the illegal words
(43_host_interface.md).
-/

namespace Sys2Proof.Machine

/-- NOP (R180): nothing, in every state. -/
def execNop (s : State) : Result := .next s

/-- INIT: the first binds the channel or is fatal (R182), a later one is misuse whatever its channel (R183). -/
def execInit (chan : BitVec 8) (s : State) : Result :=
  .next (s.unlessHalted
    (if s.inited then s.setFlag .protoErr
     else if channelSupported chan s.params then s.bindChannel (channelField chan)
     else s.setFlag .fatal))

/-- CLR_ERR (R184). -/
def execClrErr (s : State) : Result := .next (s.unlessHalted s.clearErrors)

/-- WR_GAIN (R186). -/
def execWrGain (v : BitVec 8) (s : State) : Result := .next (s.unlessHalted { s with gain := v })

/-- WR_THRESH (R187): STATUS.CARRIER is not re-evaluated. -/
def execWrThresh (v : BitVec 8) (s : State) : Result := .next (s.unlessHalted { s with thresh := v })

/-- WR_PORT (R188): the bits under DAC_MASK are not disturbed. -/
def execWrPort (v : BitVec 8) (s : State) : Result :=
  .next (s.unlessHalted { s with port := portFromHost s.params.dacMask s.port v })

/-- The common form of the legal reads (R189): the register at `a` is answered, also while halted (R214). -/
def State.answerRead (a : BitVec 4) (s : State) : State := s.emitRd (s.regRead a)

/-- RD_CMD (R190). -/
def execRdCmd (s : State) : Result := .next (s.answerRead 0x0)

/-- RD_INIT (R191). -/
def execRdInit (s : State) : Result := .next (s.answerRead 0x1)

/-- RD_GAIN (R192). -/
def execRdGain (s : State) : Result := .next (s.answerRead 0x2)

/-- RD_THRESH (R193). -/
def execRdThresh (s : State) : Result := .next (s.answerRead 0x3)

/-- RD_STATUS (R194). -/
def execRdStatus (s : State) : Result := .next (s.answerRead 0x4)

/-- RD_PTP (R195). -/
def execRdPtp (s : State) : Result := .next (s.answerRead 0x5)

/-- RD_CONFIG (R196). -/
def execRdConfig (s : State) : Result := .next (s.answerRead 0x6)

/-- RD_DUTY (R197). -/
def execRdDuty (s : State) : Result := .next (s.answerRead 0x7)

/-- RD_PORT (R198). -/
def execRdPort (s : State) : Result := .next (s.answerRead 0x8)

/-- RD_COND (R199). -/
def execRdCond (s : State) : Result := .next (s.answerRead 0x9)

/-- ILLEGAL (R200): ILL_ERR and nothing else, whatever the class of R81; ignored while halted. -/
def execIllegal (_why : IllegalWord) (s : State) : Result := .next (s.unlessHalted (s.setFlag .illErr))

/-- ILLEGAL_READ (R201): answered with 0x00 in every state; ILL_ERR as well unless halted. -/
def execIllegalRead (_why : IllegalRead) (s : State) : Result :=
  .next ((s.unlessHalted (s.setFlag .illErr)).emitRd 0x00)

end Sys2Proof.Machine
end

