-- ==== Sys2Proof/Machine/Ptt.lean ====
section
/-!
DEFINITION. START_TX and STOP_TX: the transmit/receive arbitration (42_ptt_control.md).
-/

namespace Sys2Proof.Machine

/-- START_TX: accepted when INITED = 1 and Receiving (R160), else misuse (R161); ignored while halted (R214). -/
def execStartTx (s : State) : Result :=
  .next (s.unlessHalted
    (if s.inited ∧ s.mode = .receiving then s.keyTransmitter else s.setFlag .protoErr))

/-- STOP_TX: accepted when INITED = 1 and Transmitting (R162), else misuse (R163); ignored while halted (R214). -/
def execStopTx (s : State) : Result :=
  .next (s.unlessHalted
    (if s.inited ∧ s.mode = .transmitting then s.unkeyTransmitter else s.setFlag .protoErr))

end Sys2Proof.Machine
end

