-- ==== Sys2Proof/Machine/Transmit.lean ====
section
/-!
DEFINITION. TICK: the transmit output write under both strategies (41_transmit.md).
-/

namespace Sys2Proof.Machine

/-- An accepted TICK: DUTY under the pulse-width strategy (R141), the DAC_MASK bits of PORT under compare-match (R142). -/
def State.acceptTick (byte : BitVec 8) (s : State) : State :=
  match s.strat with
  | .pulseWidth => { s with duty := byte }
  | .compareMatch => { s with port := portFromTick s.params.dacMask s.port byte }

/-- TICK (R140): ignored while halted, dropped while OUT_EN = 0, else processed. -/
def execTick (byte : BitVec 8) (s : State) : Result :=
  .next (s.unlessHalted (if s.outEn then s.acceptTick byte else s))

end Sys2Proof.Machine
end

