-- ==== Sys2Proof/Machine/Dispatch.lean ====
section
/-!
DEFINITION. The dispatch of a decoded operation to its meaning (43_host_interface.md R202), one arm per constructor.
-/

namespace Sys2Proof.Machine

def exec (i : Instr) (s : State) : Host.Outcome State Fault Refusal :=
  match i with
  | .nop => Sys2Proof.Machine.execNop s
  | .sample adc => Sys2Proof.Machine.execSample adc s
  | .tick byte => Sys2Proof.Machine.execTick byte s
  | .startTx => Sys2Proof.Machine.execStartTx s
  | .stopTx => Sys2Proof.Machine.execStopTx s
  | .clrErr => Sys2Proof.Machine.execClrErr s
  | .init chan => Sys2Proof.Machine.execInit chan s
  | .wrGain v => Sys2Proof.Machine.execWrGain v s
  | .wrThresh v => Sys2Proof.Machine.execWrThresh v s
  | .wrPort v => Sys2Proof.Machine.execWrPort v s
  | .rdCmd => Sys2Proof.Machine.execRdCmd s
  | .rdInit => Sys2Proof.Machine.execRdInit s
  | .rdGain => Sys2Proof.Machine.execRdGain s
  | .rdThresh => Sys2Proof.Machine.execRdThresh s
  | .rdStatus => Sys2Proof.Machine.execRdStatus s
  | .rdPtp => Sys2Proof.Machine.execRdPtp s
  | .rdConfig => Sys2Proof.Machine.execRdConfig s
  | .rdDuty => Sys2Proof.Machine.execRdDuty s
  | .rdPort => Sys2Proof.Machine.execRdPort s
  | .rdCond => Sys2Proof.Machine.execRdCond s

end Sys2Proof.Machine
end

