-- ==== Sys2Proof/Machine/Cycle.lean ====
section
/-!
DEFINITION. One clock cycle: reset, an operation word, or nothing (43_host_interface.md R202; 70_reset_and_hazards.md
R240, R250).
-/

namespace Sys2Proof.Machine

/-- One operation word in the state `s` (R202): it is decoded and its operation done. -/
def runWord (w : BitVec 16) (s : State) : Result :=
  match decode w with
  | .op i => exec i s
  | .illegal why => execIllegal why s
  | .illegalRead why => execIllegalRead why s

/-- One rising edge of `clk` with the input pins `p`: reset before anything else ("An operation word presented in a reset
cycle is not processed", R240), then the word if `op_valid` = 1, else nothing (R202). -/
def cycleWith (p : PinsIn) (s : State) : Result :=
  if p.rst then .next (s.applyReset p.stratSel)
  else if p.opValid then runWord p.opWord s
  else .next s

/-- The next cycle of the block: its pins are taken and the event outputs of the last operation end (R45, R252). -/
def nextCycle (s : State) : Result := cycleWith s.pins s.beginCycle

end Sys2Proof.Machine
end

