-- ==== Sys2Proof/Machine/Step.lean ====
section
/-!
DEFINITION. The step: one rising edge of `clk` (70_reset_and_hazards.md R250), and the placing of a word on the operation
port. The block fetches nothing (20_memory.md R64): the word of the next cycle is the first of `State.inputs`.
-/

namespace Sys2Proof.Machine

/-- One step is one clock cycle (R202, R240, R250). -/
def step (s : State) : Host.Outcome State Fault Refusal := nextCycle s

/-- `s` with the word `w` of `nbits` bits presented in the very next cycle, so that the next step runs exactly it. -/
def State.withFetchWord (s : State) (nbits w : Nat) : State := s.present (BitVec.ofNat 16 (w % 2 ^ nbits))

end Sys2Proof.Machine
end

