-- ==== Sys2Proof/Machine/Asm.lean ====
section
/-!
DEFINITION. The assembler and disassembler of 30_encoding.md R84 and R85. The block knows nothing of them: no step uses
this file. What R84 and R85 leave open of a line (where white space may stand, how a disassembled number is written, what
REPEAT may repeat) is assumption log 12.
-/

namespace Sys2Proof

/-- The word or words of a source operation, by the "word" column of R84 and the expansions of R85. A REPEAT of a REPEAT,
which only the model's choice admits (assumption log 12), is expanded from the inside out. -/
def SourceOp.words : SourceOp → List OpWord
  | .nop => [0x0000]
  | .sample adc => [BitVec.ofNat 16 (0x1000 ||| adc)]
  | .tick byte => [BitVec.ofNat 16 (0x2000 ||| byte)]
  | .startTx => [0x3001]
  | .stopTx => [0x3002]
  | .clrErr => [0x3003]
  | .init chan => [BitVec.ofNat 16 (0x3100 ||| chan)]
  | .wrGain v => [BitVec.ofNat 16 (0x3200 ||| v)]
  | .wrThresh v => [BitVec.ofNat 16 (0x3300 ||| v)]
  | .wrPort v => [BitVec.ofNat 16 (0x3800 ||| v)]
  | .rdCmd => [0x4000]
  | .rdInit => [0x4100]
  | .rdGain => [0x4200]
  | .rdThresh => [0x4300]
  | .rdStatus => [0x4400]
  | .rdPtp => [0x4500]
  | .rdConfig => [0x4600]
  | .rdDuty => [0x4700]
  | .rdPort => [0x4800]
  | .rdCond => [0x4900]
  | .wr addr data => [BitVec.ofNat 16 (0x3000 ||| addr <<< 8 ||| data)]
  | .rd addr => [BitVec.ofNat 16 (0x4000 ||| addr <<< 8)]
  | .word w => [BitVec.ofNat 16 w]
  | .sampleRaw r => [BitVec.ofNat 16 (0x1000 ||| (r + 512).toNat)]
  | .rept k op => (List.replicate k op.words).flatten

/-- Assembling: an operand outside its range is an error, not a word (R84). -/
def assemble (op : SourceOp) : Option (List OpWord) := if op.wellFormed then some op.words else none

/-- The named source form of an instruction (R84). -/
def Instr.source : Instr → SourceOp
  | .nop => .nop
  | .sample adc => .sample adc.toNat
  | .tick byte => .tick byte.toNat
  | .startTx => .startTx
  | .stopTx => .stopTx
  | .clrErr => .clrErr
  | .init chan => .init chan.toNat
  | .wrGain v => .wrGain v.toNat
  | .wrThresh v => .wrThresh v.toNat
  | .wrPort v => .wrPort v.toNat
  | .rdCmd => .rdCmd
  | .rdInit => .rdInit
  | .rdGain => .rdGain
  | .rdThresh => .rdThresh
  | .rdStatus => .rdStatus
  | .rdPtp => .rdPtp
  | .rdConfig => .rdConfig
  | .rdDuty => .rdDuty
  | .rdPort => .rdPort
  | .rdCond => .rdCond

/-- What a disassembler prints for one word: the named form, or the word marked illegal (R85). -/
inductive Disassembled where
  | named (op : SourceOp)
  | illegal (w : OpWord)
  | illegalRead (w : OpWord)
  deriving DecidableEq, Repr

/-- The disassembler of R85. -/
def disassemble (w : OpWord) : Disassembled :=
  match decode w with
  | .op i => .named i.source
  | .illegal _ => .illegal w
  | .illegalRead _ => .illegalRead w

/-- The source line behind a disassembled word: an illegal word is the line `.word w` (R85). -/
def Disassembled.source : Disassembled → SourceOp
  | .named op => op
  | .illegal w => .word w.toNat
  | .illegalRead w => .word w.toNat

/-- The operand of a named form, if it has one. -/
def Instr.operand : Instr → Option Nat
  | .sample adc => some adc.toNat
  | .tick byte => some byte.toNat
  | .init chan => some chan.toNat
  | .wrGain v => some v.toNat
  | .wrThresh v => some v.toNat
  | .wrPort v => some v.toNat
  | .nop => none
  | .startTx => none
  | .stopTx => none
  | .clrErr => none
  | .rdCmd => none
  | .rdInit => none
  | .rdGain => none
  | .rdThresh => none
  | .rdStatus => none
  | .rdPtp => none
  | .rdConfig => none
  | .rdDuty => none
  | .rdPort => none
  | .rdCond => none

/-- The disassembler's line of text (R85): numbers in decimal. -/
def disassembleText (w : OpWord) : String :=
  match decode w with
  | .op i =>
    match i.operand with
    | none => i.mnemonic
    | some n => i.mnemonic ++ " " ++ toString n
  | .illegal _ => "ILLEGAL .word " ++ toString w.toNat
  | .illegalRead _ => "ILLEGAL_READ .word " ++ toString w.toNat

/-- Closes the token collected so far, if there is one. -/
def closeToken (cur : List Char) (rest : List (List Char)) : List (List Char) :=
  if cur.isEmpty then rest else cur.reverse :: rest

/-- The tokens of a line: white space separates, a comma is a token of its own, `;` starts a comment, and letters are taken
in upper case, since mnemonics are case-insensitive (R84). -/
def tokens : List Char → List Char → List (List Char)
  | [], cur => closeToken cur []
  | c :: cs, cur =>
    if c = ';' then closeToken cur []
    else if c.isWhitespace then closeToken cur (tokens cs [])
    else if c = ',' then closeToken cur ([','] :: tokens cs [])
    else tokens cs (c.toUpper :: cur)

/-- The value of one digit in base `base`. -/
def digitValue (base : Nat) (c : Char) : Option Nat :=
  let v := if c.isDigit then c.toNat - '0'.toNat else if 'A' ≤ c ∧ c ≤ 'F' then c.toNat - 'A'.toNat + 10 else base
  if v < base then some v else none

/-- The value of a string of digits after `acc`. -/
def digitsValue (base : Nat) : List Char → Nat → Option Nat
  | [], acc => some acc
  | c :: cs, acc =>
    match digitValue base c with
    | some v => digitsValue base cs (acc * base + v)
    | none => none

/-- A number, decimal or `0x` hexadecimal (R84). -/
def parseNat : List Char → Option Nat
  | [] => none
  | ['0', 'X'] => none
  | '0' :: 'X' :: ds => digitsValue 16 ds 0
  | ds => digitsValue 10 ds 0

/-- A number with an optional minus sign, as SAMPLE_RAW takes (R85). -/
def parseInt : List Char → Option Int
  | '-' :: ds => (parseNat ds).map fun n => -(n : Int)
  | ds => (parseNat ds).map fun n => (n : Int)

/-- The operations without operands, by name (R84). -/
def parsePlain (name : String) : Option SourceOp :=
  match name with
  | "NOP" => some .nop
  | "START_TX" => some .startTx
  | "STOP_TX" => some .stopTx
  | "CLR_ERR" => some .clrErr
  | "RD_CMD" => some .rdCmd
  | "RD_INIT" => some .rdInit
  | "RD_GAIN" => some .rdGain
  | "RD_THRESH" => some .rdThresh
  | "RD_STATUS" => some .rdStatus
  | "RD_PTP" => some .rdPtp
  | "RD_CONFIG" => some .rdConfig
  | "RD_DUTY" => some .rdDuty
  | "RD_PORT" => some .rdPort
  | "RD_COND" => some .rdCond
  | _ => none

/-- The operations with one unsigned operand, by name (R84). -/
def parseUnary (name : String) (n : Nat) : Option SourceOp :=
  match name with
  | "SAMPLE" => some (.sample n)
  | "TICK" => some (.tick n)
  | "INIT" => some (.init n)
  | "WR_GAIN" => some (.wrGain n)
  | "WR_THRESH" => some (.wrThresh n)
  | "WR_PORT" => some (.wrPort n)
  | "RD" => some (.rd n)
  | ".WORD" => some (.word n)
  | _ => none

/-- An operation from its tokens (R84, R85). DESIGN CHOICE (assumption log 12): what follows `REPEAT k,` is read as a line of
its own, so it may itself be a REPEAT; R85 calls REPEAT "an assembler loop, not an operation" and does not say. -/
def parseTokens : List (List Char) → Option SourceOp
  | [name] => parsePlain (String.ofList name)
  | [name, a] =>
    if String.ofList name = "SAMPLE_RAW" then (parseInt a).map SourceOp.sampleRaw
    else (parseNat a).bind (parseUnary (String.ofList name))
  | name :: a :: [','] :: rest =>
    if String.ofList name = "REPEAT" then
      (parseNat a).bind fun k => (parseTokens rest).map (SourceOp.rept k)
    else if String.ofList name = "WR" then
      match rest with
      | [b] => (parseNat a).bind fun addr => (parseNat b).map (SourceOp.wr addr)
      | _ => none
    else none
  | _ => none

/-- A line of source: nothing but a comment or white space, or one operation (R84); `none` where it is neither. -/
def parseLine (line : String) : Option (Option SourceOp) :=
  match tokens line.toList [] with
  | [] => some none
  | ts => (parseTokens ts).map some

end Sys2Proof
end

