-- ==== Sys2Proof/Safety.lean ====
section
/-!
DEFINITION. The terms claims are stated in: the consistency of 10_state.md R40, the window of the ring (R23), the samples a
run accepts, the block at rest between events, and the merging of event streams (20_memory.md R60).
-/

namespace Sys2Proof.Machine

/-- R40 (a) to (f): what holds in every state reachable from reset. -/
structure State.Consistent (s : State) : Prop where
  /-- (a) STATUS.PTT = STATUS.MODE. -/
  pttIsMode : s.ptt = s.mode.bit
  /-- (b) STATUS.OUT_EN = STATUS.MODE. -/
  outEnIsMode : s.outEn = s.mode.bit
  /-- (c) Transmitting only after INIT. -/
  modeInited : s.mode = .transmitting → s.inited = true
  /-- (d) what STATUS.ADC_EN is. -/
  adcEnIs : s.adcEn = (s.inited && !(s.mode == .transmitting && s.strat == .pulseWidth))
  /-- (e) a halted block was never initialized and is idle. -/
  fatalIdle : s.fatal = true → s.inited = false ∧ s.mode = .receiving ∧ s.adcEn = false ∧ s.outEn = false
  /-- (f) both events enabled only under the compare-match strategy. -/
  bothEnabled : s.adcEn = true → s.outEn = true → s.strat = .compareMatch

/-- The parameters are legal (R8) and a bound channel is supported by them (R182). -/
structure State.Configured (s : State) : Prop where
  paramsLegal : s.params.Legal
  chanSupported : s.chan.toNat < s.params.nchan

/-- The ring's entries from the oldest, RING[POS], to the newest, RING[(POS - 1) mod 32] (R23). -/
def State.window (s : State) : List (BitVec 8) := List.ofFn fun j : Fin 32 => s.ring[s.pos + j]

/-- The attenuated sample that the next cycle writes into the ring: some byte exactly when that cycle presents a SAMPLE
word and the block accepts it (R100). -/
def State.nextAccepted (s : State) : Option (BitVec 8) :=
  if s.pins.rst || !s.pins.opValid || s.fatal || !s.adcEn then none else
  match decode s.pins.opWord with
  | .op (.sample adc) => some (attenuatedByte adc s.gain)
  | _ => none

/-- The attenuated samples that the next `k` cycles write into the ring, first accepted first. -/
def State.accepted : Nat → State → List (BitVec 8)
  | 0, _ => []
  | k + 1, s =>
    s.nextAccepted.toList ++
      match step s with
      | .next t => State.accepted k t
      | .fault _ => []
      | .refused _ => []

/-- No coming cycle is a reset cycle. -/
def State.noReset (s : State) : Bool := s.inputs.all fun p => !p.rst

/-- No coming cycle presents `w`. -/
def State.neverPresents (w : BitVec 16) (s : State) : Bool := s.inputs.all fun p => !(p.opValid && p.opWord == w)

/-- The state with the input pins and the one-cycle event outputs set aside: what the operations of a run leave behind. -/
def State.settled (s : State) : State :=
  { s with inputs := [], rvalid := false, condValid := false, carrierEdge := false }

/-- Presenting the words `ws`, one a cycle, then nothing. -/
def State.feeding (ws : List (BitVec 16)) (s : State) : State := { s with inputs := ws.map PinsIn.word }

/-- `zs` is a merge of `xs` and `ys` that keeps the order of each (R60). -/
inductive Interleaving {α : Type} : List α → List α → List α → Prop where
  | nil : Interleaving [] [] []
  | left {x : α} {xs ys zs : List α} : Interleaving xs ys zs → Interleaving (x :: xs) ys (x :: zs)
  | right {y : α} {xs ys zs : List α} : Interleaving xs ys zs → Interleaving xs (y :: ys) (y :: zs)

end Sys2Proof.Machine
end

