-- ==== Sys2Proof/Certificates/Slice0/Obligations.lean ====
section
/-!
DEFINITION. The statements for the provers. Each docstring names the rule of spec/ it formalises.
-/

open Sys2Proof Sys2Proof.Machine

/-! ### Encoding -/

/-- 95_test_vectors.md and R84: words written out from the formats of R72 to R74 decode to their operations. -/
def Obligations.DecodeReadsSpecWords : Prop :=
  decode 0x0000 = .op .nop ∧ decode 0x1258 = .op (.sample 600) ∧ decode 0x20A7 = .op (.tick 0xA7) ∧
  decode 0x3001 = .op .startTx ∧ decode 0x3003 = .op .clrErr ∧ decode 0x3103 = .op (.init 3) ∧
  decode 0x383C = .op (.wrPort 0x3C) ∧ decode 0x4900 = .op .rdCond ∧
  decode 0x3955 = .illegal .readOnlyRegister ∧ decode 0x4A00 = .illegalRead .reservedAddress

/-- R72 to R77: decoding the encoding of an instruction gives it back, with every operand at every value. -/
def Obligations.DecodeOfEncode : Prop := ∀ i : Instr, decode (encode i) = .op i

/-- R78, R79: a word that decodes to an operation is that operation's one encoding, so no bit of it is dropped. -/
def Obligations.EncodeOfDecode : Prop := ∀ (w : OpWord) (i : Instr), decode w = .op i → encode i = w

/-- R80: a word decodes to a named operation exactly when it lies in that operation's row; no two rows match the same word;
the variable fields are the bits R80 names; a word in no row is ILLEGAL_READ if `w[15:12]` = 0x4, and ILLEGAL otherwise. -/
def Obligations.DecodeFollowsOpcodeMap : Prop :=
  (∀ (w : OpWord) (r : OpcodeRow), r ∈ opcodeMap →
    (r.covers w = true ↔ ∃ i, decode w = .op i ∧ i.mnemonic = r.mnemonic)) ∧
  (∀ (w : OpWord) (r r' : OpcodeRow), r ∈ opcodeMap → r' ∈ opcodeMap →
    r.covers w = true → r'.covers w = true → r = r') ∧
  (∀ w : OpWord,
    (∀ a, decode w = .op (.sample a) → a.toNat = w.toNat % 1024) ∧
    (∀ b, (decode w = .op (.tick b) ∨ decode w = .op (.init b) ∨ decode w = .op (.wrGain b) ∨
      decode w = .op (.wrThresh b) ∨ decode w = .op (.wrPort b)) → b.toNat = w.toNat % 256)) ∧
  (∀ w : OpWord, (∀ r ∈ opcodeMap, r.covers w = false) →
    if w.toNat / 4096 = 4 then ∃ why, decode w = .illegalRead why else ∃ why, decode w = .illegal why)

/-- R81 (a) to (i): which words are illegal, class by class. The word is read as a number: OPC is `w / 4096`. -/
def Obligations.IllegalWordClasses : Prop :=
  ∀ w : OpWord,
    let opc := w.toNat / 4096
    let addr := w.toNat / 256 % 16
    let data := w.toNat % 256
    (decode w = .illegal .reservedClass ↔ 5 ≤ opc) ∧
    (decode w = .illegal .nopPayload ↔ opc = 0 ∧ w.toNat % 4096 ≠ 0) ∧
    (decode w = .illegal .samplePayload ↔ opc = 1 ∧ w.toNat / 1024 % 4 ≠ 0) ∧
    (decode w = .illegal .tickPayload ↔ opc = 2 ∧ addr ≠ 0) ∧
    (decode w = .illegal .unknownCommand ↔ opc = 3 ∧ addr = 0 ∧ (data = 0 ∨ 4 ≤ data)) ∧
    (decode w = .illegal .readOnlyRegister ↔
      opc = 3 ∧ (addr = 4 ∨ addr = 5 ∨ addr = 6 ∨ addr = 7 ∨ addr = 9)) ∧
    (decode w = .illegal .reservedAddress ↔ opc = 3 ∧ 10 ≤ addr) ∧
    (decode w = .illegalRead .payload ↔ opc = 4 ∧ data ≠ 0) ∧
    (decode w = .illegalRead .reservedAddress ↔ opc = 4 ∧ data = 0 ∧ 10 ≤ addr)

/-- R85: a disassembler prints the named form for every word of R80, `ILLEGAL_READ .word w` for ILLEGAL_READ and
`ILLEGAL .word w` for ILLEGAL, and the line behind each assembles to that word. A word in no row is ILLEGAL_READ if
`w[15:12]` = 0x4 and ILLEGAL otherwise (R80). That the printed numbers are decimal is the model's choice, assumption
log 12. -/
def Obligations.DisassembledAssembles : Prop :=
  (∀ w : OpWord, assemble (disassemble w).source = some [w]) ∧
  (∀ (w : OpWord) (r : OpcodeRow), r ∈ opcodeMap → r.covers w = true →
    ∃ i : Instr, i.mnemonic = r.mnemonic ∧ encode i = w ∧ disassemble w = .named i.source ∧
      disassembleText w = i.operand.elim i.mnemonic fun n => i.mnemonic ++ " " ++ toString n) ∧
  (∀ w : OpWord, (∀ r ∈ opcodeMap, r.covers w = false) →
    if w.toNat / 4096 = 4 then
      disassemble w = .illegalRead w ∧ disassembleText w = "ILLEGAL_READ .word " ++ toString w.toNat
    else disassemble w = .illegal w ∧ disassembleText w = "ILLEGAL .word " ++ toString w.toNat)

/-- R84, R85: the named form of an operation assembles to its word; `WR addr, data`, `RD addr` and `.word w` assemble to
theirs, legal or not; an operand of any form outside its range is an error; the named writes and reads are spellings of the
generic forms, SAMPLE_RAW r is SAMPLE (r + 512), and REPEAT k, op is k copies of op for k >= 1. That the op of REPEAT may be
any source line, another REPEAT among them, is the model's choice, assumption log 12. -/
def Obligations.AssemblerForms : Prop :=
  (∀ i : Instr, assemble i.source = some [encode i]) ∧
  (∀ n : Nat, 1023 < n → assemble (.sample n) = none) ∧
  (∀ n : Nat, 255 < n → assemble (.tick n) = none ∧ assemble (.init n) = none ∧ assemble (.wrGain n) = none ∧
    assemble (.wrThresh n) = none ∧ assemble (.wrPort n) = none) ∧
  (∀ a d : Nat, assemble (.wr a d) = if a ≤ 15 ∧ d ≤ 255 then some [BitVec.ofNat 16 (0x3000 + a * 256 + d)] else none) ∧
  (∀ a : Nat, assemble (.rd a) = if a ≤ 15 then some [BitVec.ofNat 16 (0x4000 + a * 256)] else none) ∧
  (∀ n : Nat, assemble (.word n) = if n ≤ 0xFFFF then some [BitVec.ofNat 16 n] else none) ∧
  SourceOp.words .startTx = SourceOp.words (.wr 0x0 0x01) ∧ SourceOp.words .stopTx = SourceOp.words (.wr 0x0 0x02) ∧
  SourceOp.words .clrErr = SourceOp.words (.wr 0x0 0x03) ∧
  (∀ c : Nat, c ≤ 255 → SourceOp.words (.init c) = SourceOp.words (.wr 0x1 c) ∧
    SourceOp.words (.wrGain c) = SourceOp.words (.wr 0x2 c) ∧ SourceOp.words (.wrThresh c) = SourceOp.words (.wr 0x3 c) ∧
    SourceOp.words (.wrPort c) = SourceOp.words (.wr 0x8 c)) ∧
  SourceOp.words .rdCmd = SourceOp.words (.rd 0x0) ∧ SourceOp.words .rdInit = SourceOp.words (.rd 0x1) ∧
  SourceOp.words .rdGain = SourceOp.words (.rd 0x2) ∧ SourceOp.words .rdThresh = SourceOp.words (.rd 0x3) ∧
  SourceOp.words .rdStatus = SourceOp.words (.rd 0x4) ∧ SourceOp.words .rdPtp = SourceOp.words (.rd 0x5) ∧
  SourceOp.words .rdConfig = SourceOp.words (.rd 0x6) ∧ SourceOp.words .rdDuty = SourceOp.words (.rd 0x7) ∧
  SourceOp.words .rdPort = SourceOp.words (.rd 0x8) ∧ SourceOp.words .rdCond = SourceOp.words (.rd 0x9) ∧
  (∀ r : Int, assemble (.sampleRaw r) =
    if -512 ≤ r ∧ r ≤ 511 then assemble (.sample (r + 512).toNat) else none) ∧
  (∀ op : SourceOp, assemble (.rept 0 op) = none) ∧
  (∀ (k : Nat) (op : SourceOp), assemble op = none → assemble (.rept k op) = none) ∧
  (∀ (k : Nat) (op : SourceOp) (ws : List OpWord), 1 ≤ k → assemble op = some ws →
    assemble (.rept k op) = some (List.replicate k ws).flatten)

/-! ### The step -/

/-- R202, R250: when the next cycle presents a word that decodes to the operation `i`, the step is `exec` of `i` at the
state in which that cycle's pins are taken and the event outputs of the previous operation have ended (R45). -/
def Obligations.StepRunsDecodedInstruction : Prop :=
  ∀ (s : State) (p : PinsIn) (rest : List PinsIn) (i : Instr),
    s.inputs = p :: rest → p.rst = false → p.opValid = true → decode p.opWord = .op i →
    step s = exec i { s with inputs := rest, rvalid := false, condValid := false, carrierEdge := false }

/-- R200, R201: an ILLEGAL word sets ILL_ERR and does nothing else; an ILLEGAL_READ word is answered with 0x00 as well;
while FATAL = 1 neither sets ILL_ERR. -/
def Obligations.StepIllegalWords : Prop :=
  (∀ (s : State) (p : PinsIn) (rest : List PinsIn) (why : IllegalWord),
    s.inputs = p :: rest → p.rst = false → p.opValid = true → decode p.opWord = .illegal why →
    step s = .next { s with
      inputs := rest, rvalid := false, condValid := false, carrierEdge := false,
      illErr := if s.fatal then s.illErr else true }) ∧
  (∀ (s : State) (p : PinsIn) (rest : List PinsIn) (why : IllegalRead),
    s.inputs = p :: rest → p.rst = false → p.opValid = true → decode p.opWord = .illegalRead why →
    step s = .next { s with
      inputs := rest, rvalid := true, rdata := 0x00, condValid := false, carrierEdge := false,
      illErr := if s.fatal then s.illErr else true })

/-- R202: a cycle with `op_valid` = 0 changes nothing and emits nothing. (That every cycle after the end of the list of
inputs is such a cycle is the model's choice, assumption log 1.) -/
def Obligations.StepIdleCycle : Prop :=
  ∀ s : State, (s.inputs = [] ∨ ∃ p rest, s.inputs = p :: rest ∧ p.rst = false ∧ p.opValid = false) →
    step s = .next { s with inputs := s.inputs.tail, rvalid := false, condValid := false, carrierEdge := false }

/-- R240: a reset edge gives every piece of state its reset value (R20), loads CONFIG.STRAT from `strat_sel`, ends every
event output and processes no word presented in that cycle; and no other cycle clears STATUS.FATAL. -/
def Obligations.StepReset : Prop :=
  (∀ (s : State) (p : PinsIn) (rest : List PinsIn), s.inputs = p :: rest → p.rst = true →
    ∃ t, step s = .next t ∧ (∀ j : Fin 32, t.ring[j].toInt = -128) ∧ t.pos = 0 ∧ t.gain = 0x00 ∧ t.thresh = 0x00 ∧
      t.ptp = 0x00 ∧ t.cond = 0x00 ∧ t.mode = .receiving ∧ t.carrier = false ∧ t.ptt = false ∧ t.adcEn = false ∧
      t.outEn = false ∧ t.protoErr = false ∧ t.illErr = false ∧ t.fatal = false ∧
      t.strat = (if p.stratSel then .compareMatch else .pulseWidth) ∧ t.inited = false ∧ t.chan = 0 ∧
      t.duty = 0x80 ∧ t.port = 0x00 ∧ t.rvalid = false ∧ t.condValid = false ∧ t.carrierEdge = false ∧
      t.rdata = 0x00 ∧ t.condOut = 0x00 ∧ t.params = s.params ∧ t.inputs = rest) ∧
  (∀ s t : State, step s = .next t → s.fatal = true → t.fatal = false → s.pins.rst = true)

/-- R202: every word in every state has an outcome, and it is no fault and no refusal. -/
def Obligations.StepTotal : Prop := ∀ s : State, ∃ t, step s = .next t

/-- R245: `strat_sel` has no effect outside a reset cycle, and CONFIG.STRAT keeps its value until the next reset. -/
def Obligations.StrapSampledAtResetOnly : Prop :=
  (∀ (s : State) (p : PinsIn) (rest : List PinsIn) (b : Bool), p.rst = false →
    step { s with inputs := { p with stratSel := b } :: rest } = step { s with inputs := p :: rest }) ∧
  (∀ (k : Nat) (s t : State), s.noReset = true → core.run k s = .next t → t.strat = s.strat)

/-! ### Invariants -/

/-- R40 at reset: the reset state is consistent, whatever the parameters, the strap and the inputs to come; the model's
`State.reset` (its parameters and strap are assumption log 2 and 3) is one such state, and its channel is supported. -/
def Obligations.ResetConsistent : Prop :=
  (∀ (p : Params) (st : Strategy) (ins : List PinsIn), (State.afterReset p st ins).Consistent) ∧
  State.reset.Consistent ∧ State.reset.Configured

/-- R40 (a) to (f) as an invariant of the step, from every state that meets it. -/
def Obligations.StepKeepsConsistent : Prop :=
  ∀ s t : State, s.Consistent → step s = .next t → t.Consistent

/-- R40: what holds in every state reachable from reset, after any number of cycles with any inputs. -/
def Obligations.ReachableConsistent : Prop :=
  ∀ (p : Params) (st : Strategy) (ins : List PinsIn) (k : Nat) (t : State),
    core.run k (State.afterReset p st ins) = .next t → t.Consistent

/-- R182, R8: a step keeps the parameters legal and the bound channel below NCHAN. -/
def Obligations.StepKeepsConfigured : Prop :=
  ∀ s t : State, s.Configured → step s = .next t → t.Configured

/-- R214: the halted state answers legal reads with the register and illegal reads with 0x00, and ignores every other word;
its enables are low and the `fatal` pin is high; only reset leaves it. -/
def Obligations.HaltedAnswersReadsOnly : Prop :=
  (∀ (s : State) (p : PinsIn) (rest : List PinsIn), s.Consistent → s.fatal = true → s.inputs = p :: rest →
    p.rst = false → p.opValid = true →
    s.pinsOut.adcRun = false ∧ s.pinsOut.tmrIrqEn = false ∧ s.pinsOut.fatal = true ∧
    ∃ t, step s = .next t ∧ { t with rvalid := false, rdata := s.rdata } =
        { s with inputs := rest, rvalid := false, condValid := false, carrierEdge := false } ∧
      (p.opWord.toNat / 4096 = 4 → t.rvalid = true ∧
        t.rdata = if p.opWord.toNat % 256 = 0 then s.regRead (addrField p.opWord) else 0x00) ∧
      (p.opWord.toNat / 4096 ≠ 4 → t.rvalid = false ∧ t.rdata = s.rdata)) ∧
  (∀ s t : State, s.fatal = true → s.pins.rst = false → step s = .next t → t.fatal = true)

/-- R214, R35: once halted, the block keeps every register through any number of cycles without reset; only `rdata` and the
one-cycle outputs can change. -/
def Obligations.HaltedForever : Prop :=
  ∀ (k : Nat) (s t : State), s.fatal = true → s.noReset = true → core.run k s = .next t →
    { t.settled with rdata := s.rdata } = s.settled

/-! ### SAMPLE -/

/-- R111 with R101, R103 to R110: an accepted SAMPLE. The minimum and the maximum are given by what they are. -/
def Obligations.SampleAccepted : Prop :=
  ∀ (s : State) (adc : AdcCode), s.fatal = false → s.adcEn = true →
    ∃ mn mx : Int,
      (∀ j : Fin 32, mn ≤ s.ring[j].toInt ∧ s.ring[j].toInt ≤ mx) ∧
      (∃ j : Fin 32, s.ring[j].toInt = mn) ∧ (∃ j : Fin 32, s.ring[j].toInt = mx) ∧
      exec (.sample adc) s = .next { s with
        ring := s.ring.set s.pos
          (BitVec.ofInt 8 (min 127 (max (-128) (((adc.toNat : Int) - 512) / 2 ^ s.gain.toNat))))
        pos := ⟨(s.pos.val + 1) % 32, Nat.mod_lt _ (by decide)⟩
        ptp := BitVec.ofInt 8 (mx - mn)
        carrier := decide ((s.thresh.toNat : Int) ≤ mx - mn)
        cond := BitVec.ofInt 8 (s.ring[s.pos].toInt - (∑ j : Fin 32, s.ring[j].toInt) / 32)
        condValid := true
        condOut := BitVec.ofInt 8 (s.ring[s.pos].toInt - (∑ j : Fin 32, s.ring[j].toInt) / 32)
        carrierEdge := (decide ((s.thresh.toNat : Int) ≤ mx - mn) != s.carrier) }

/-- R100: a SAMPLE is ignored while FATAL = 1 and dropped while ADC_EN = 0, with no state change and no event; and SAMPLE
does not read STATUS.MODE. -/
def Obligations.SampleGate : Prop :=
  (∀ (s : State) (adc : AdcCode), s.fatal = true ∨ s.adcEn = false → exec (.sample adc) s = .next s) ∧
  (∀ (s t : State) (adc : AdcCode) (m : Mode), exec (.sample adc) s = .next t →
    exec (.sample adc) { s with mode := m } = .next { t with mode := m })

/-- R101: the stored byte is the floor shift of the zero-centred code, clamped to the signed byte, for every code and gain. -/
def Obligations.AttenuationFormula : Prop :=
  ∀ (adc : AdcCode) (gain : Byte),
    -512 ≤ rawSample adc ∧ rawSample adc ≤ 511 ∧ rawSample adc = (adc.toNat : Int) - 512 ∧
    ∃ q : Int, q * 2 ^ gain.toNat ≤ rawSample adc ∧ rawSample adc < (q + 1) * 2 ^ gain.toNat ∧
      (attenuatedByte adc gain).toInt = min 127 (max (-128) q)

/-- R102: the corner cases of the attenuation. -/
def Obligations.AttenuationCorners : Prop :=
  (∀ raw : Int, attenuate raw 0 = min 127 (max (-128) raw)) ∧ attenuate 511 0 = 127 ∧ attenuate (-512) 0 = -128 ∧
  attenuate (-512) 1 = -128 ∧ attenuate (-512) 2 = -128 ∧ asr (-512) 1 = -256 ∧ asr (-512) 2 = -128 ∧
  attenuate (-512) 3 = -64 ∧ attenuate (-512) 4 = -32 ∧
  (∀ g : Nat, attenuate (-1) g = -1) ∧
  (∀ (raw : Int) (g : Nat), raw < 0 → attenuate raw g < 0) ∧
  (∀ (raw : Int) (g : Nat), 9 ≤ g → 0 ≤ raw → raw ≤ 511 → attenuate raw g = 0) ∧
  (∀ (raw : Int) (g : Nat), 9 ≤ g → -512 ≤ raw → raw < 0 → attenuate raw g = -1) ∧
  (∀ (raw : Int) (g : Nat), 2 ≤ g → -512 ≤ raw → raw ≤ 511 →
    -128 ≤ asr raw g ∧ asr raw g ≤ 127 ∧ attenuate raw g = asr raw g)

/-- R103: the scan of all 32 entries, with the ranges of the sum, the minimum and the maximum. -/
def Obligations.RingScan : Prop :=
  ∀ r : Vector Byte 32,
    ringSum r = ∑ j : Fin 32, r[j].toInt ∧ -4096 ≤ ringSum r ∧ ringSum r ≤ 4064 ∧
    (∀ j : Fin 32, ringMin r ≤ r[j].toInt) ∧ (∃ j : Fin 32, r[j].toInt = ringMin r) ∧
    -128 ≤ ringMin r ∧ ringMin r ≤ 127 ∧
    (∀ j : Fin 32, r[j].toInt ≤ ringMax r) ∧ (∃ j : Fin 32, r[j].toInt = ringMax r) ∧
    -128 ≤ ringMax r ∧ ringMax r ≤ 127

/-- R104 to R106: the bias is the floor of the mean and lies between the minimum and the maximum; the peak-to-peak value
fits its unsigned byte; the exact difference is bounded by it. -/
def Obligations.DcFilterBounds : Prop :=
  ∀ (r : Vector Byte 32) (pos : Fin 32),
    ringBias r * 32 ≤ ringSum r ∧ ringSum r < (ringBias r + 1) * 32 ∧
    ringMin r ≤ ringBias r ∧ ringBias r ≤ ringMax r ∧
    0 ≤ ringPtp r ∧ ringPtp r ≤ 255 ∧ ((ptpByte r).toNat : Int) = ringPtp r ∧
    dcDifference r pos = r[pos].toInt - ringBias r ∧
    -ringPtp r ≤ dcDifference r pos ∧ dcDifference r pos ≤ ringPtp r ∧
    -255 ≤ dcDifference r pos ∧ dcDifference r pos ≤ 255

/-- R107: the conditioned sample is the exact difference when it fits, and otherwise, possible only when ptp >= 128, the
difference plus or minus 256. -/
def Obligations.ConditionedSampleWraps : Prop :=
  ∀ (r : Vector Byte 32) (pos : Fin 32),
    (-128 ≤ dcDifference r pos → dcDifference r pos ≤ 127 → (condByte r pos).toInt = dcDifference r pos) ∧
    (dcDifference r pos < -128 →
      (condByte r pos).toInt = dcDifference r pos + 256 ∧ 128 ≤ ringPtp r) ∧
    (127 < dcDifference r pos →
      (condByte r pos).toInt = dcDifference r pos - 256 ∧ 128 ≤ ringPtp r)

/-- R108, R109: the squelch comparison of an accepted SAMPLE, its ends, its independence of the flag held, and the
transition output. -/
def Obligations.CarrierDecision : Prop :=
  ∀ (s : State) (adc : AdcCode), s.fatal = false → s.adcEn = true →
    ∃ t, exec (.sample adc) s = .next t ∧
      (t.carrier = true ↔ (s.thresh.toNat : Int) ≤ ringPtp s.ring) ∧
      (s.thresh = 0 → t.carrier = true) ∧
      (s.thresh = 255 → (t.carrier = true ↔ ringPtp s.ring = 255)) ∧
      (t.carrierEdge = true ↔ t.carrier ≠ s.carrier) ∧
      (∀ (c : Bool) (u : State), exec (.sample adc) { s with carrier := c } = .next u → u.carrier = t.carrier)

/-- R23 from every state: through any cycles without reset, the ring read from its oldest entry is the window before them
with the samples accepted in them appended and as many of the oldest entries gone. -/
def Obligations.WindowSlides : Prop :=
  ∀ (k : Nat) (s t : State), s.noReset = true → core.run k s = .next t →
    t.window = (s.window ++ s.accepted k).drop (s.accepted k).length

/-- R23: after the accepted samples `a` since reset, entry `j` from the oldest is the attenuated sample numbered
`|a| - 32 + j`, or the fill value -128 when that number is negative; RING[POS] is the oldest, RING[POS - 1] the newest. -/
def Obligations.RingHoldsLastSamples : Prop :=
  ∀ (p : Params) (st : Strategy) (ins : List PinsIn) (k : Nat) (t : State),
    (State.afterReset p st ins).noReset = true → core.run k (State.afterReset p st ins) = .next t →
    let a := (State.afterReset p st ins).accepted k
    ∀ j : Fin 32, t.ring[t.pos + j] = (if 32 ≤ a.length + j.val then a.getD (a.length + j.val - 32) 0 else 0x80)

/-- R113 (b) with R22: POS advances by the number of accepted samples modulo 32, so it is back after 32 of them. -/
def Obligations.CursorCountsAccepted : Prop :=
  ∀ (k : Nat) (s t : State), s.noReset = true → core.run k s = .next t →
    t.pos.val = (s.pos.val + (s.accepted k).length) % 32

/-- R113 (a): after 32 or more accepted samples that all attenuate to `c`, the bias is `c`, and an accepted SAMPLE reports
peak-to-peak 0 and conditioned sample 0. -/
def Obligations.ConstantInputSettles : Prop :=
  ∀ (k n : Nat) (c : Byte) (s t : State) (adc : AdcCode), s.noReset = true → core.run k s = .next t →
    s.accepted k = List.replicate n c → 32 ≤ n → t.fatal = false → t.adcEn = true →
    ringBias t.ring = c.toInt ∧
    ∃ u, exec (.sample adc) t = .next u ∧ u.ptp = 0 ∧ u.cond = 0 ∧ u.condOut = 0

/-- R112: start-up. While some of the 32 entries are still the fill, ptp is at least the largest accepted value + 128; and
with a mid-scale input (attenuated value 0) the conditioned samples are 0, -4, ..., -124, the carrier is asserted from the
second sample on whenever THRESH <= 128, and from the 33rd sample on cond and ptp are 0. -/
def Obligations.StartUpTransient : Prop :=
  ∀ (p : Params) (st : Strategy) (ins : List PinsIn) (k : Nat) (t : State),
    (State.afterReset p st ins).noReset = true → core.run k (State.afterReset p st ins) = .next t →
    let a := (State.afterReset p st ins).accepted k
    (a.length < 32 → ∀ x ∈ a, x.toInt + 128 ≤ ringPtp t.ring) ∧
    (∀ n : Nat, a = List.replicate n 0 → ∀ adc : AdcCode, t.fatal = false → t.adcEn = true →
      ∃ u, exec (.sample adc) t = .next u ∧
        (n < 32 → u.cond.toInt = -4 * (n : Int)) ∧ (32 ≤ n → u.cond = 0 ∧ u.ptp = 0) ∧
        (1 ≤ n → n < 32 → t.thresh.toNat ≤ 128 → u.carrier = true))

/-- R114: an incrementally kept running sum gives the scan's sum: one accepted SAMPLE adds the new entry and takes the
overwritten one away. -/
def Obligations.RunningSumAgrees : Prop :=
  ∀ (s t : State) (adc : AdcCode), s.fatal = false → s.adcEn = true → exec (.sample adc) s = .next t →
    ringSum t.ring = ringSum s.ring - s.ring[s.pos].toInt + (attenuatedByte adc s.gain).toInt

/-! ### TICK and the two strategies -/

/-- R141: an accepted TICK under the pulse-width strategy writes all 8 bits of DUTY and nothing else. -/
def Obligations.TickWritesDuty : Prop :=
  ∀ (s : State) (b : Byte), s.fatal = false → s.outEn = true → s.strat = .pulseWidth →
    exec (.tick b) s = .next { s with duty := b }

/-- R142: an accepted TICK under the compare-match strategy writes the DAC_MASK bits of PORT and nothing else. -/
def Obligations.TickWritesDacBits : Prop :=
  ∀ (s : State) (b : Byte), s.fatal = false → s.outEn = true → s.strat = .compareMatch →
    ∃ v : Byte, exec (.tick b) s = .next { s with port := v } ∧
      ∀ j : Nat, j < 8 → v.getLsbD j = if s.params.dacMask.getLsbD j then b.getLsbD j else s.port.getLsbD j

/-- R140: a TICK is ignored while FATAL = 1 and dropped while OUT_EN = 0; in a consistent state OUT_EN is 1 exactly while
transmitting. -/
def Obligations.TickGate : Prop :=
  (∀ (s : State) (b : Byte), s.fatal = true ∨ s.outEn = false → exec (.tick b) s = .next s) ∧
  (∀ s : State, s.Consistent → (s.outEn = true ↔ s.mode = .transmitting))

/-- R146: no operation changes CONFIG.STRAT; under STRAT = 0 no word changes the DAC_MASK bits of PORT (R39) and no TICK any
bit of it, and under STRAT = 1 none writes DUTY, which keeps its reset value. -/
def Obligations.StrategiesExclusive : Prop :=
  (∀ s t : State, s.pins.rst = false → step s = .next t →
    t.strat = s.strat ∧
    (s.strat = .pulseWidth → t.port &&& s.params.dacMask = s.port &&& s.params.dacMask) ∧
    (s.strat = .compareMatch → t.duty = s.duty)) ∧
  (∀ (s t : State) (b : Byte), s.strat = .pulseWidth → exec (.tick b) s = .next t → t.port = s.port) ∧
  (∀ (p : Params) (ins : List PinsIn) (k : Nat) (t : State),
    (State.afterReset p .compareMatch ins).noReset = true →
    core.run k (State.afterReset p .compareMatch ins) = .next t → t.duty = 0x80)

/-- R145: the result of a SAMPLE and a TICK does not depend on their order. -/
def Obligations.SampleTickCommute : Prop :=
  ∀ (s s₁ s₂ t₁ t₂ : State) (adc : AdcCode) (b : Byte),
    exec (.sample adc) s = .next s₁ → exec (.tick b) s₁ = .next t₁ →
    exec (.tick b) s = .next s₂ → exec (.sample adc) s₂ = .next t₂ → t₁ = t₂

/-- R60, R145: of a stream of sampling events and a stream of output events, every merge that keeps the order of each
leaves the block in the same state. -/
def Obligations.EventMergeOrderIrrelevant : Prop :=
  ∀ (s t t' : State) (xs ys zs zs' : List OpWord),
    (∀ w ∈ xs, ∃ adc, decode w = .op (.sample adc)) → (∀ w ∈ ys, ∃ b, decode w = .op (.tick b)) →
    Interleaving xs ys zs → Interleaving xs ys zs' →
    core.run zs.length (s.feeding zs) = .next t → core.run zs'.length (s.feeding zs') = .next t' →
    t.settled = t'.settled

/-! ### START_TX and STOP_TX -/

/-- R160: an accepted START_TX. -/
def Obligations.StartTxAccepted : Prop :=
  ∀ s : State, s.fatal = false → s.inited = true → s.mode = .receiving →
    exec .startTx s = .next { s with
      ptt := true, mode := .transmitting, outEn := true,
      adcEn := if s.strat = .pulseWidth then false else s.adcEn }

/-- R162: an accepted STOP_TX. -/
def Obligations.StopTxAccepted : Prop :=
  ∀ s : State, s.fatal = false → s.inited = true → s.mode = .transmitting →
    exec .stopTx s = .next { s with ptt := false, mode := .receiving, outEn := false, adcEn := true }

/-- R161, R163: START_TX and STOP_TX out of order change nothing except PROTO_ERR. -/
def Obligations.CommandMisuse : Prop :=
  (∀ s : State, s.fatal = false → (s.inited = false ∨ s.mode = .transmitting) →
    exec .startTx s = .next { s with protoErr := true }) ∧
  (∀ s : State, s.fatal = false → (s.inited = false ∨ s.mode = .receiving) →
    exec .stopTx s = .next { s with protoErr := true })

/-- R164: the state machine's table, for a consistent state that is not halted, as the next values of its six outputs. -/
def Obligations.PttStateTable : Prop :=
  ∀ s : State, s.Consistent → s.fatal = false →
    ∃ a z : State, exec .startTx s = .next a ∧ exec .stopTx s = .next z ∧
      (s.inited = false → s.mode = .receiving ∧ s.ptt = false ∧ s.adcEn = false ∧ s.outEn = false) ∧
      (a.mode, a.ptt, a.adcEn, a.outEn, a.protoErr) =
        (if s.inited = true ∧ s.mode = .receiving
         then (Mode.transmitting, true, decide (s.strat = .compareMatch), true, s.protoErr)
         else (s.mode, s.ptt, s.adcEn, s.outEn, true)) ∧
      (z.mode, z.ptt, z.adcEn, z.outEn, z.protoErr) =
        (if s.inited = true ∧ s.mode = .transmitting
         then (Mode.receiving, false, true, false, s.protoErr)
         else (s.mode, s.ptt, s.adcEn, s.outEn, true))

/-- R165, R116. (a) Under the pulse-width strategy, from transmitting until a STOP_TX word, whatever else is presented, no
sample is accepted and nothing of the capture path changes, and a STOP_TX then restores sampling; (b) under the
compare-match strategy an initialized block accepts samples in both modes; (c) under both strategies a TICK is never
processed while Receiving. -/
def Obligations.TransmitReceiveExclusion : Prop :=
  (∀ (k : Nat) (s t : State), s.Consistent → s.strat = .pulseWidth → s.mode = .transmitting → s.noReset = true →
    s.neverPresents 0x3002 = true → core.run k s = .next t →
    s.accepted k = [] ∧ t.mode = .transmitting ∧ t.adcEn = false ∧ t.outEn = true ∧ t.ring = s.ring ∧ t.pos = s.pos ∧
      t.ptp = s.ptp ∧ t.cond = s.cond ∧ t.carrier = s.carrier ∧ t.condOut = s.condOut ∧
      ∃ u, exec .stopTx t = .next u ∧ u.adcEn = true ∧ u.ring = s.ring ∧ u.pos = s.pos) ∧
  (∀ (s : State) (adc : AdcCode), s.Consistent → s.strat = .compareMatch → s.inited = true →
    ∃ t, exec (.sample adc) s = .next t ∧ t.condValid = true ∧ t.pos.val = (s.pos.val + 1) % 32) ∧
  (∀ (s : State) (b : Byte), s.Consistent → s.mode = .receiving → exec (.tick b) s = .next s)

/-! ### The host's operations -/

/-- R180: NOP leaves every state unchanged, the halted one too, and emits nothing, so a cycle that presents its word 0x0000
leaves what a cycle with `op_valid` = 0 leaves; a word 0x0001 to 0x0FFF is not NOP but ILLEGAL. -/
def Obligations.NopChangesNothing : Prop :=
  (∀ s : State, exec .nop s = .next s) ∧
  (∀ (s : State) (rest : List PinsIn), step { s with inputs := PinsIn.word 0x0000 :: rest } =
    .next { s with inputs := rest, rvalid := false, condValid := false, carrierEdge := false }) ∧
  (∀ w : OpWord, w ≠ 0 → w.toNat < 4096 → ∃ why, decode w = .illegal why)

/-- R182, R183: the first INIT stores a supported channel whole (NCHAN is at most 128, R8) and is fatal, changing no other
state, for an unsupported one, the comparison being made before any truncation; a later INIT changes nothing except
PROTO_ERR, whatever its channel. -/
def Obligations.InitOutcomes : Prop :=
  (∀ (s : State) (chan : Byte), s.fatal = false → s.inited = false → s.params.Legal →
    (chan.toNat < s.params.nchan →
      ∃ c : Channel, c.toNat = chan.toNat ∧
        exec (.init chan) s = .next { s with chan := c, inited := true, adcEn := true }) ∧
    (s.params.nchan ≤ chan.toNat → exec (.init chan) s = .next { s with fatal := true })) ∧
  (∀ (s : State) (chan : Byte), s.fatal = false → s.inited = true →
    exec (.init chan) s = .next { s with protoErr := true })

/-- R247: before INIT, SAMPLE and TICK are dropped, START_TX and STOP_TX are misuse, and register writes and reads work. -/
def Obligations.BeforeInit : Prop :=
  ∀ s : State, s.Consistent → s.fatal = false → s.inited = false →
    (∀ adc, exec (.sample adc) s = .next s) ∧ (∀ b, exec (.tick b) s = .next s) ∧
    exec .startTx s = .next { s with protoErr := true } ∧ exec .stopTx s = .next { s with protoErr := true } ∧
    (∀ v, ∃ t, exec (.wrGain v) s = .next t ∧ t.gain = v) ∧ (∀ v, ∃ t, exec (.wrThresh v) s = .next t ∧ t.thresh = v) ∧
    (∀ v, ∃ t, exec (.wrPort v) s = .next t ∧
      t.port &&& ~~~s.params.dacMask = v &&& ~~~s.params.dacMask) ∧
    (∀ q ∈ [(Instr.rdCmd, 0x0#4), (.rdInit, 0x1#4), (.rdGain, 0x2#4), (.rdThresh, 0x3#4), (.rdStatus, 0x4#4),
        (.rdPtp, 0x5#4), (.rdConfig, 0x6#4), (.rdDuty, 0x7#4), (.rdPort, 0x8#4), (.rdCond, 0x9#4)],
      exec q.1 s = .next { s with rvalid := true, rdata := s.regRead q.2 })

/-- R184: CLR_ERR clears PROTO_ERR and ILL_ERR and nothing else; while halted it is ignored. -/
def Obligations.ClrErrClears : Prop :=
  (∀ s : State, s.fatal = false → exec .clrErr s = .next { s with protoErr := false, illErr := false }) ∧
  (∀ s : State, s.fatal = true → exec .clrErr s = .next s)

/-- R186, R187: WR_GAIN and WR_THRESH write their register as given and nothing else. -/
def Obligations.WriteGainThresh : Prop :=
  (∀ (s : State) (v : Byte), s.fatal = false → exec (.wrGain v) s = .next { s with gain := v }) ∧
  (∀ (s : State) (v : Byte), s.fatal = false → exec (.wrThresh v) s = .next { s with thresh := v })

/-- R188: WR_PORT writes the bits of PORT outside DAC_MASK and nothing else. -/
def Obligations.WritePort : Prop :=
  ∀ (s : State) (v : Byte), s.fatal = false →
    ∃ p : Byte, exec (.wrPort v) s = .next { s with port := p } ∧
      ∀ j : Nat, j < 8 → p.getLsbD j = if s.params.dacMask.getLsbD j then s.port.getLsbD j else v.getLsbD j

/-- R190, R192, R193, R195, R197 to R199: the reads of whole registers, in every state, the halted one too; R189: nothing
but the answer changes. -/
def Obligations.ReadsOfWholeRegisters : Prop :=
  ∀ s : State,
    exec .rdCmd s = .next { s with rvalid := true, rdata := 0x00 } ∧
    exec .rdGain s = .next { s with rvalid := true, rdata := s.gain } ∧
    exec .rdThresh s = .next { s with rvalid := true, rdata := s.thresh } ∧
    exec .rdPtp s = .next { s with rvalid := true, rdata := s.ptp } ∧
    exec .rdDuty s = .next { s with rvalid := true, rdata := s.duty } ∧
    exec .rdPort s = .next { s with rvalid := true, rdata := s.port } ∧
    exec .rdCond s = .next { s with rvalid := true, rdata := s.cond }

/-- R191, R194, R196 with the layouts of R28, R36 and R37: the reads of INITREG, STATUS and CONFIG, bit by bit. -/
def Obligations.ReadsOfPackedRegisters : Prop :=
  ∀ s : State, ∃ vi vs vc : Byte,
    exec .rdInit s = .next { s with rvalid := true, rdata := vi } ∧
    exec .rdStatus s = .next { s with rvalid := true, rdata := vs } ∧
    exec .rdConfig s = .next { s with rvalid := true, rdata := vc } ∧
    vi.toNat = s.inited.toNat * 128 + s.chan.toNat ∧
    vs.getLsbD 0 = decide (s.mode = .transmitting) ∧ vs.getLsbD 1 = s.carrier ∧ vs.getLsbD 2 = s.ptt ∧
    vs.getLsbD 3 = s.adcEn ∧ vs.getLsbD 4 = s.outEn ∧ vs.getLsbD 5 = s.protoErr ∧ vs.getLsbD 6 = s.illErr ∧
    vs.getLsbD 7 = s.fatal ∧
    vc.toNat = if s.strat = .compareMatch then 1 else 0

/-- R251: a REG_READ in the cycle after a REG_WRITE of the same register returns the written value, for PORT the merged
value. -/
def Obligations.ReadAfterWrite : Prop :=
  ∀ (s : State) (v : Byte), s.fatal = false →
    (∃ t, core.run 2 (s.feeding [encode (.wrGain v), encode .rdGain]) = .next t ∧ t.rvalid = true ∧ t.rdata = v) ∧
    (∃ t, core.run 2 (s.feeding [encode (.wrThresh v), encode .rdThresh]) = .next t ∧ t.rvalid = true ∧ t.rdata = v) ∧
    (∃ t, core.run 2 (s.feeding [encode (.wrPort v), encode .rdPort]) = .next t ∧ t.rvalid = true ∧
      t.rdata = (s.port &&& s.params.dacMask) ||| (v &&& ~~~s.params.dacMask))

/-! ### Rules over all operations -/

/-- R211, R212, R213: which cycles raise each error flag. -/
def Obligations.ErrorFlagSetters : Prop :=
  ∀ s t : State, s.pins.rst = false → step s = .next t →
    (s.protoErr = false → (t.protoErr = true ↔ s.fatal = false ∧ s.pins.opValid = true ∧
      ((decode s.pins.opWord = .op .startTx ∧ (s.inited = false ∨ s.mode = .transmitting)) ∨
       (decode s.pins.opWord = .op .stopTx ∧ (s.inited = false ∨ s.mode = .receiving)) ∨
       (∃ c, decode s.pins.opWord = .op (.init c) ∧ s.inited = true)))) ∧
    (s.illErr = false → (t.illErr = true ↔ s.fatal = false ∧ s.pins.opValid = true ∧
      ((∃ why, decode s.pins.opWord = .illegal why) ∨ (∃ why, decode s.pins.opWord = .illegalRead why)))) ∧
    (s.fatal = false → (t.fatal = true ↔ s.pins.opValid = true ∧
      ∃ c : Byte, decode s.pins.opWord = .op (.init c) ∧ s.inited = false ∧ s.params.nchan ≤ c.toNat))

/-- R220, R34, R219: one word sets at most one error flag, and a set flag stays set until reset or, for PROTO_ERR and
ILL_ERR, a CLR_ERR while not halted. -/
def Obligations.ErrorFlagsAccumulate : Prop :=
  ∀ s t : State, step s = .next t →
    (if s.protoErr = false ∧ t.protoErr = true then 1 else 0) + (if s.illErr = false ∧ t.illErr = true then 1 else 0) +
      (if s.fatal = false ∧ t.fatal = true then 1 else 0) ≤ 1 ∧
    (s.pins.rst = false →
      (s.fatal = true → t.fatal = true) ∧
      (s.fatal = true ∨ ¬(s.pins.opValid = true ∧ decode s.pins.opWord = .op .clrErr) →
        (s.protoErr = true → t.protoErr = true) ∧ (s.illErr = true → t.illErr = true)))

/-- R45, R46, R74, R252: which cycles raise the event outputs, for one cycle; `rdata` and `cond_out` hold otherwise. -/
def Obligations.EventOutputs : Prop :=
  ∀ s t : State, s.pins.rst = false → step s = .next t →
    (t.rvalid = true ↔ s.pins.opValid = true ∧ s.pins.opWord.toNat / 4096 = 4) ∧
    (t.rvalid = false → t.rdata = s.rdata) ∧
    (t.condValid = true ↔ s.fatal = false ∧ s.adcEn = true ∧ s.pins.opValid = true ∧
      ∃ adc, decode s.pins.opWord = .op (.sample adc)) ∧
    (t.condValid = true → t.condOut = t.cond ∧ (t.carrierEdge = true ↔ t.carrier ≠ s.carrier)) ∧
    (t.condValid = false → t.condOut = s.condOut ∧ t.carrierEdge = false)

/-- R21, R22, R26, R27, R30: outside reset, only an accepted SAMPLE changes the ring, POS, PTP, COND and CARRIER. -/
def Obligations.CaptureWriters : Prop :=
  ∀ s t : State, s.pins.rst = false → step s = .next t →
    (t.ring ≠ s.ring ∨ t.pos ≠ s.pos ∨ t.ptp ≠ s.ptp ∨ t.cond ≠ s.cond ∨ t.carrier ≠ s.carrier) →
    s.nextAccepted.isSome = true

/-- R24, R25, R29, R31 to R33, R36 to R39: outside reset, which operation alone can change each other register. -/
def Obligations.RegisterWriters : Prop :=
  ∀ s t : State, s.pins.rst = false → step s = .next t →
    t.strat = s.strat ∧ t.params = s.params ∧
    (t.gain ≠ s.gain → decode s.pins.opWord = .op (.wrGain t.gain)) ∧
    (t.thresh ≠ s.thresh → decode s.pins.opWord = .op (.wrThresh t.thresh)) ∧
    (t.mode ≠ s.mode ∨ t.ptt ≠ s.ptt ∨ t.outEn ≠ s.outEn →
      decode s.pins.opWord = .op .startTx ∨ decode s.pins.opWord = .op .stopTx) ∧
    (t.adcEn ≠ s.adcEn → (∃ c, decode s.pins.opWord = .op (.init c)) ∨ decode s.pins.opWord = .op .stopTx ∨
      (decode s.pins.opWord = .op .startTx ∧ s.strat = .pulseWidth)) ∧
    (t.inited ≠ s.inited ∨ t.chan ≠ s.chan →
      ∃ c : Byte, decode s.pins.opWord = .op (.init c) ∧ c.toNat < s.params.nchan) ∧
    (t.duty ≠ s.duty → decode s.pins.opWord = .op (.tick t.duty) ∧ s.outEn = true ∧ s.strat = .pulseWidth) ∧
    (t.port &&& s.params.dacMask ≠ s.port &&& s.params.dacMask →
      (∃ b, decode s.pins.opWord = .op (.tick b)) ∧ s.outEn = true ∧ s.strat = .compareMatch) ∧
    (t.port &&& ~~~s.params.dacMask ≠ s.port &&& ~~~s.params.dacMask →
      ∃ v, decode s.pins.opWord = .op (.wrPort v))

/-- R181, R37: the bound channel decides nothing but itself (and so the pins `adc_chan`) and what a read of INITREG answers:
two blocks that differ in CHAN alone still differ in nothing else after a step, except in `rdata` where the cycle presents
a word that decodes to RD_INIT; and after it each holds its own channel still, or both hold the same one. -/
def Obligations.ChannelDecidesNothing : Prop :=
  ∀ (s t : State) (c : Channel), step s = .next t →
    ∃ t', step { s with chan := c } = .next t' ∧ { t' with chan := t.chan, rdata := t.rdata } = t ∧
      ((t'.chan = c ∧ t.chan = s.chan) ∨ t'.chan = t.chan) ∧
      (¬(s.pins.rst = false ∧ s.pins.opValid = true ∧ decode s.pins.opWord = .op .rdInit) → t'.rdata = t.rdata)
end

