-- ==== Sys2Proof/Laws/PerInstr.lean ====
section
/-!
SUPPORT. The family TableRow of LAWS.json: the word of every instruction lies in the row of the opcode map (30_encoding.md
R80) that bears the instruction's mnemonic.
-/

namespace Sys2Proof.Laws.TableRow

/-- The encoding of `i` lies in the row of its mnemonic. -/
def Statement (i : Instr) : Prop := ∃ r ∈ opcodeMap, r.mnemonic = i.mnemonic ∧ r.covers (encode i) = true

/-- A format S word lies under the mask of SAMPLE. -/
theorem sample_covers (adc : AdcCode) : (encode (.sample adc)) &&& 0xFC00#16 = 0x1000#16 := by
  revert adc; decide +kernel

/-- A word of a one-byte operand lies under its mask. -/
theorem byte_covers (hi v : Byte) : (hi ++ v : OpWord) &&& 0xFF00#16 = hi ++ 0x00#8 := by
  ext j hj
  simp only [BitVec.getElem_and, BitVec.getElem_append]
  split
  · interval_cases j <;> simp_all
  · interval_cases j <;> simp_all

theorem sample (adc : AdcCode) : Statement (.sample adc) :=
  ⟨⟨"SAMPLE", 0x1000, 0xFC00⟩, by decide, rfl, by
    show ((encode (.sample adc)) &&& 0xFC00#16 == 0x1000#16) = true
    rw [sample_covers]; decide⟩

theorem tick (v : Byte) : Statement (.tick v) :=
  ⟨⟨"TICK", 0x2000, 0xFF00⟩, by decide, rfl, by
    show (((0x20#8 : Byte) ++ v : OpWord) &&& 0xFF00#16 == 0x2000#16) = true
    rw [byte_covers]; decide⟩

theorem init (v : Byte) : Statement (.init v) :=
  ⟨⟨"INIT", 0x3100, 0xFF00⟩, by decide, rfl, by
    show (((0x31#8 : Byte) ++ v : OpWord) &&& 0xFF00#16 == 0x3100#16) = true
    rw [byte_covers]; decide⟩

theorem wrGain (v : Byte) : Statement (.wrGain v) :=
  ⟨⟨"WR_GAIN", 0x3200, 0xFF00⟩, by decide, rfl, by
    show (((0x32#8 : Byte) ++ v : OpWord) &&& 0xFF00#16 == 0x3200#16) = true
    rw [byte_covers]; decide⟩

theorem wrThresh (v : Byte) : Statement (.wrThresh v) :=
  ⟨⟨"WR_THRESH", 0x3300, 0xFF00⟩, by decide, rfl, by
    show (((0x33#8 : Byte) ++ v : OpWord) &&& 0xFF00#16 == 0x3300#16) = true
    rw [byte_covers]; decide⟩

theorem wrPort (v : Byte) : Statement (.wrPort v) :=
  ⟨⟨"WR_PORT", 0x3800, 0xFF00⟩, by decide, rfl, by
    show (((0x38#8 : Byte) ++ v : OpWord) &&& 0xFF00#16 == 0x3800#16) = true
    rw [byte_covers]; decide⟩

theorem nop : Statement .nop := ⟨⟨"NOP", 0x0000, 0xFFFF⟩, by decide, rfl, by decide⟩

theorem startTx : Statement .startTx := ⟨⟨"START_TX", 0x3001, 0xFFFF⟩, by decide, rfl, by decide⟩

theorem stopTx : Statement .stopTx := ⟨⟨"STOP_TX", 0x3002, 0xFFFF⟩, by decide, rfl, by decide⟩

theorem clrErr : Statement .clrErr := ⟨⟨"CLR_ERR", 0x3003, 0xFFFF⟩, by decide, rfl, by decide⟩

theorem rdCmd : Statement .rdCmd := ⟨⟨"RD_CMD", 0x4000, 0xFFFF⟩, by decide, rfl, by decide⟩

theorem rdInit : Statement .rdInit := ⟨⟨"RD_INIT", 0x4100, 0xFFFF⟩, by decide, rfl, by decide⟩

theorem rdGain : Statement .rdGain := ⟨⟨"RD_GAIN", 0x4200, 0xFFFF⟩, by decide, rfl, by decide⟩

theorem rdThresh : Statement .rdThresh := ⟨⟨"RD_THRESH", 0x4300, 0xFFFF⟩, by decide, rfl, by decide⟩

theorem rdStatus : Statement .rdStatus := ⟨⟨"RD_STATUS", 0x4400, 0xFFFF⟩, by decide, rfl, by decide⟩

theorem rdPtp : Statement .rdPtp := ⟨⟨"RD_PTP", 0x4500, 0xFFFF⟩, by decide, rfl, by decide⟩

theorem rdConfig : Statement .rdConfig := ⟨⟨"RD_CONFIG", 0x4600, 0xFFFF⟩, by decide, rfl, by decide⟩

theorem rdDuty : Statement .rdDuty := ⟨⟨"RD_DUTY", 0x4700, 0xFFFF⟩, by decide, rfl, by decide⟩

theorem rdPort : Statement .rdPort := ⟨⟨"RD_PORT", 0x4800, 0xFFFF⟩, by decide, rfl, by decide⟩

theorem rdCond : Statement .rdCond := ⟨⟨"RD_COND", 0x4900, 0xFFFF⟩, by decide, rfl, by decide⟩

end Sys2Proof.Laws.TableRow
end

