-- ==== Sys2Proof/Laws/Ring.lean ====
section
/-!
SUPPORT. What the DC filter's scan is: the sum over the 32 entries, a minimum and a maximum that are attained and bound
every entry, and the ring write entry by entry (40_capture.md R103, R110).
-/

namespace Sys2Proof.Machine

/-- Folding `min` gives a lower bound of the start value and of every member. -/
theorem foldr_min_le (l : List Int) (a : Int) :
    l.foldr min a ≤ a ∧ ∀ x ∈ l, l.foldr min a ≤ x := by
  induction l with
  | nil => simp
  | cons y l ih =>
    refine ⟨(min_le_right _ _).trans ih.1, fun x hx => ?_⟩
    rcases List.mem_cons.mp hx with rfl | hx
    · exact min_le_left _ _
    · exact (min_le_right _ _).trans (ih.2 x hx)

/-- Folding `min` gives the start value or a member. -/
theorem foldr_min_mem (l : List Int) (a : Int) : l.foldr min a = a ∨ l.foldr min a ∈ l := by
  induction l with
  | nil => simp
  | cons y l ih =>
    rcases min_choice y (l.foldr min a) with h | h
    · exact .inr (by simp [h])
    · rcases ih with e | e
      · exact .inl (by simpa [h] using e)
      · exact .inr (by simp only [List.foldr_cons, h]; exact List.mem_cons_of_mem _ e)

/-- Folding `max` gives an upper bound of the start value and of every member. -/
theorem le_foldr_max (l : List Int) (a : Int) :
    a ≤ l.foldr max a ∧ ∀ x ∈ l, x ≤ l.foldr max a := by
  induction l with
  | nil => simp
  | cons y l ih =>
    refine ⟨ih.1.trans (le_max_right _ _), fun x hx => ?_⟩
    rcases List.mem_cons.mp hx with rfl | hx
    · exact le_max_left _ _
    · exact (ih.2 x hx).trans (le_max_right _ _)

/-- Folding `max` gives the start value or a member. -/
theorem foldr_max_mem (l : List Int) (a : Int) : l.foldr max a = a ∨ l.foldr max a ∈ l := by
  induction l with
  | nil => simp
  | cons y l ih =>
    rcases max_choice y (l.foldr max a) with h | h
    · exact .inr (by simp [h])
    · rcases ih with e | e
      · exact .inl (by simpa [h] using e)
      · exact .inr (by simp only [List.foldr_cons, h]; exact List.mem_cons_of_mem _ e)

/-- An 8-bit two's-complement value lies in [-128, 127] (R9). -/
theorem byte_toInt_bounds (b : BitVec 8) : -128 ≤ b.toInt ∧ b.toInt ≤ 127 := by
  have h₁ := BitVec.le_toInt b
  have h₂ := BitVec.toInt_lt (x := b)
  omega

/-- The scanned values are the entries' integers. -/
theorem mem_ringValues {r : Vector (BitVec 8) 32} {x : Int} :
    x ∈ ringValues r ↔ ∃ j : Fin 32, r[j].toInt = x := by
  simp only [ringValues, List.mem_map, Vector.mem_toList_iff, Vector.mem_iff_getElem]
  constructor
  · rintro ⟨b, ⟨i, hi, rfl⟩, rfl⟩
    exact ⟨⟨i, hi⟩, rfl⟩
  · rintro ⟨j, rfl⟩
    exact ⟨r[j], ⟨j, j.isLt, rfl⟩, rfl⟩

/-- The scanned values in index order. -/
theorem ringValues_eq_ofFn (r : Vector (BitVec 8) 32) :
    ringValues r = List.ofFn fun j : Fin 32 => r[j].toInt := by
  apply List.ext_getElem
  · rw [ringValues, List.length_map, Vector.length_toList, List.length_ofFn]
  · intro i h₁ h₂
    simp only [ringValues, List.getElem_map, Vector.getElem_toList, List.getElem_ofFn, Fin.getElem_fin]

/-- The sum is the sum over the 32 entries (R103). -/
theorem ringSum_eq_sum (r : Vector (BitVec 8) 32) : ringSum r = ∑ j : Fin 32, r[j].toInt := by
  rw [ringSum, ringValues_eq_ofFn, ← List.sum_ofFn]
  rfl

/-- The minimum bounds every entry from below. -/
theorem ringMin_le (r : Vector (BitVec 8) 32) (j : Fin 32) : ringMin r ≤ r[j].toInt :=
  (foldr_min_le _ _).2 _ (mem_ringValues.mpr ⟨j, rfl⟩)

/-- The minimum is an entry of the ring. -/
theorem ringMin_attained (r : Vector (BitVec 8) 32) : ∃ j : Fin 32, r[j].toInt = ringMin r := by
  rcases foldr_min_mem (ringValues r) 127 with h | h
  · exact ⟨0, le_antisymm ((byte_toInt_bounds _).2.trans h.ge) (ringMin_le r 0)⟩
  · exact mem_ringValues.mp h

/-- The maximum bounds every entry from above. -/
theorem le_ringMax (r : Vector (BitVec 8) 32) (j : Fin 32) : r[j].toInt ≤ ringMax r :=
  (le_foldr_max _ _).2 _ (mem_ringValues.mpr ⟨j, rfl⟩)

/-- The maximum is an entry of the ring. -/
theorem ringMax_attained (r : Vector (BitVec 8) 32) : ∃ j : Fin 32, r[j].toInt = ringMax r := by
  rcases foldr_max_mem (ringValues r) (-128) with h | h
  · exact ⟨0, le_antisymm (le_ringMax r 0) (h.le.trans (byte_toInt_bounds _).1)⟩
  · exact mem_ringValues.mp h

/-- The conditioned sample is `s8(diff)`, and its byte on `cond_out` is `u8` of the same value (R107, R111). -/
theorem condByte_reads (r : Vector (BitVec 8) 32) (pos : Fin 32) :
    (condByte r pos).toInt = s8 (dcDifference r pos) ∧ (condByte r pos).toNat = u8 (dcDifference r pos) := ⟨rfl, rfl⟩

/-- The ring write, entry by entry (R110). -/
theorem getElem_set_fin (r : Vector (BitVec 8) 32) (p j : Fin 32) (a : BitVec 8) :
    (r.set p a)[j] = if j = p then a else r[j] := by
  simp only [Fin.getElem_fin, Vector.getElem_set, Fin.ext_iff, eq_comm]

/-- The cursor advances modulo 32 (R22). -/
theorem fin32_succ_val (p : Fin 32) : (p + 1).val = (p.val + 1) % 32 := by
  rw [Fin.val_add]; rfl

end Sys2Proof.Machine
end

