-- ==== Sys2Proof/Laws/State.lean ====
section
/-!
SUPPORT. The fields of the state after each shared operation of Machine/Ops.lean: one lemma per field per update.
-/

namespace Sys2Proof.Machine

variable (s : State)

/-! #### beginCycle -/

@[simp] theorem State.beginCycle_ring : s.beginCycle.ring = s.ring := rfl
@[simp] theorem State.beginCycle_pos : s.beginCycle.pos = s.pos := rfl
@[simp] theorem State.beginCycle_gain : s.beginCycle.gain = s.gain := rfl
@[simp] theorem State.beginCycle_thresh : s.beginCycle.thresh = s.thresh := rfl
@[simp] theorem State.beginCycle_ptp : s.beginCycle.ptp = s.ptp := rfl
@[simp] theorem State.beginCycle_cond : s.beginCycle.cond = s.cond := rfl
@[simp] theorem State.beginCycle_mode : s.beginCycle.mode = s.mode := rfl
@[simp] theorem State.beginCycle_carrier : s.beginCycle.carrier = s.carrier := rfl
@[simp] theorem State.beginCycle_ptt : s.beginCycle.ptt = s.ptt := rfl
@[simp] theorem State.beginCycle_adcEn : s.beginCycle.adcEn = s.adcEn := rfl
@[simp] theorem State.beginCycle_outEn : s.beginCycle.outEn = s.outEn := rfl
@[simp] theorem State.beginCycle_protoErr : s.beginCycle.protoErr = s.protoErr := rfl
@[simp] theorem State.beginCycle_illErr : s.beginCycle.illErr = s.illErr := rfl
@[simp] theorem State.beginCycle_fatal : s.beginCycle.fatal = s.fatal := rfl
@[simp] theorem State.beginCycle_strat : s.beginCycle.strat = s.strat := rfl
@[simp] theorem State.beginCycle_inited : s.beginCycle.inited = s.inited := rfl
@[simp] theorem State.beginCycle_chan : s.beginCycle.chan = s.chan := rfl
@[simp] theorem State.beginCycle_duty : s.beginCycle.duty = s.duty := rfl
@[simp] theorem State.beginCycle_port : s.beginCycle.port = s.port := rfl
@[simp] theorem State.beginCycle_rvalid : s.beginCycle.rvalid = false := rfl
@[simp] theorem State.beginCycle_rdata : s.beginCycle.rdata = s.rdata := rfl
@[simp] theorem State.beginCycle_condValid : s.beginCycle.condValid = false := rfl
@[simp] theorem State.beginCycle_condOut : s.beginCycle.condOut = s.condOut := rfl
@[simp] theorem State.beginCycle_carrierEdge : s.beginCycle.carrierEdge = false := rfl
@[simp] theorem State.beginCycle_params : s.beginCycle.params = s.params := rfl
@[simp] theorem State.beginCycle_inputs : s.beginCycle.inputs = s.inputs.tail := rfl

/-! #### clearErrors -/

@[simp] theorem State.clearErrors_ring : s.clearErrors.ring = s.ring := rfl
@[simp] theorem State.clearErrors_pos : s.clearErrors.pos = s.pos := rfl
@[simp] theorem State.clearErrors_gain : s.clearErrors.gain = s.gain := rfl
@[simp] theorem State.clearErrors_thresh : s.clearErrors.thresh = s.thresh := rfl
@[simp] theorem State.clearErrors_ptp : s.clearErrors.ptp = s.ptp := rfl
@[simp] theorem State.clearErrors_cond : s.clearErrors.cond = s.cond := rfl
@[simp] theorem State.clearErrors_mode : s.clearErrors.mode = s.mode := rfl
@[simp] theorem State.clearErrors_carrier : s.clearErrors.carrier = s.carrier := rfl
@[simp] theorem State.clearErrors_ptt : s.clearErrors.ptt = s.ptt := rfl
@[simp] theorem State.clearErrors_adcEn : s.clearErrors.adcEn = s.adcEn := rfl
@[simp] theorem State.clearErrors_outEn : s.clearErrors.outEn = s.outEn := rfl
@[simp] theorem State.clearErrors_protoErr : s.clearErrors.protoErr = false := rfl
@[simp] theorem State.clearErrors_illErr : s.clearErrors.illErr = false := rfl
@[simp] theorem State.clearErrors_fatal : s.clearErrors.fatal = s.fatal := rfl
@[simp] theorem State.clearErrors_strat : s.clearErrors.strat = s.strat := rfl
@[simp] theorem State.clearErrors_inited : s.clearErrors.inited = s.inited := rfl
@[simp] theorem State.clearErrors_chan : s.clearErrors.chan = s.chan := rfl
@[simp] theorem State.clearErrors_duty : s.clearErrors.duty = s.duty := rfl
@[simp] theorem State.clearErrors_port : s.clearErrors.port = s.port := rfl
@[simp] theorem State.clearErrors_rvalid : s.clearErrors.rvalid = s.rvalid := rfl
@[simp] theorem State.clearErrors_rdata : s.clearErrors.rdata = s.rdata := rfl
@[simp] theorem State.clearErrors_condValid : s.clearErrors.condValid = s.condValid := rfl
@[simp] theorem State.clearErrors_condOut : s.clearErrors.condOut = s.condOut := rfl
@[simp] theorem State.clearErrors_carrierEdge : s.clearErrors.carrierEdge = s.carrierEdge := rfl
@[simp] theorem State.clearErrors_params : s.clearErrors.params = s.params := rfl
@[simp] theorem State.clearErrors_inputs : s.clearErrors.inputs = s.inputs := rfl

/-! #### emitRd -/

@[simp] theorem State.emitRd_ring (v : BitVec 8) : (s.emitRd v).ring = s.ring := rfl
@[simp] theorem State.emitRd_pos (v : BitVec 8) : (s.emitRd v).pos = s.pos := rfl
@[simp] theorem State.emitRd_gain (v : BitVec 8) : (s.emitRd v).gain = s.gain := rfl
@[simp] theorem State.emitRd_thresh (v : BitVec 8) : (s.emitRd v).thresh = s.thresh := rfl
@[simp] theorem State.emitRd_ptp (v : BitVec 8) : (s.emitRd v).ptp = s.ptp := rfl
@[simp] theorem State.emitRd_cond (v : BitVec 8) : (s.emitRd v).cond = s.cond := rfl
@[simp] theorem State.emitRd_mode (v : BitVec 8) : (s.emitRd v).mode = s.mode := rfl
@[simp] theorem State.emitRd_carrier (v : BitVec 8) : (s.emitRd v).carrier = s.carrier := rfl
@[simp] theorem State.emitRd_ptt (v : BitVec 8) : (s.emitRd v).ptt = s.ptt := rfl
@[simp] theorem State.emitRd_adcEn (v : BitVec 8) : (s.emitRd v).adcEn = s.adcEn := rfl
@[simp] theorem State.emitRd_outEn (v : BitVec 8) : (s.emitRd v).outEn = s.outEn := rfl
@[simp] theorem State.emitRd_protoErr (v : BitVec 8) : (s.emitRd v).protoErr = s.protoErr := rfl
@[simp] theorem State.emitRd_illErr (v : BitVec 8) : (s.emitRd v).illErr = s.illErr := rfl
@[simp] theorem State.emitRd_fatal (v : BitVec 8) : (s.emitRd v).fatal = s.fatal := rfl
@[simp] theorem State.emitRd_strat (v : BitVec 8) : (s.emitRd v).strat = s.strat := rfl
@[simp] theorem State.emitRd_inited (v : BitVec 8) : (s.emitRd v).inited = s.inited := rfl
@[simp] theorem State.emitRd_chan (v : BitVec 8) : (s.emitRd v).chan = s.chan := rfl
@[simp] theorem State.emitRd_duty (v : BitVec 8) : (s.emitRd v).duty = s.duty := rfl
@[simp] theorem State.emitRd_port (v : BitVec 8) : (s.emitRd v).port = s.port := rfl
@[simp] theorem State.emitRd_rvalid (v : BitVec 8) : (s.emitRd v).rvalid = true := rfl
@[simp] theorem State.emitRd_rdata (v : BitVec 8) : (s.emitRd v).rdata = v := rfl
@[simp] theorem State.emitRd_condValid (v : BitVec 8) : (s.emitRd v).condValid = s.condValid := rfl
@[simp] theorem State.emitRd_condOut (v : BitVec 8) : (s.emitRd v).condOut = s.condOut := rfl
@[simp] theorem State.emitRd_carrierEdge (v : BitVec 8) : (s.emitRd v).carrierEdge = s.carrierEdge := rfl
@[simp] theorem State.emitRd_params (v : BitVec 8) : (s.emitRd v).params = s.params := rfl
@[simp] theorem State.emitRd_inputs (v : BitVec 8) : (s.emitRd v).inputs = s.inputs := rfl

/-! #### emitCond -/

@[simp] theorem State.emitCond_ring (v : BitVec 8) (e : Bool) : (s.emitCond v e).ring = s.ring := rfl
@[simp] theorem State.emitCond_pos (v : BitVec 8) (e : Bool) : (s.emitCond v e).pos = s.pos := rfl
@[simp] theorem State.emitCond_gain (v : BitVec 8) (e : Bool) : (s.emitCond v e).gain = s.gain := rfl
@[simp] theorem State.emitCond_thresh (v : BitVec 8) (e : Bool) : (s.emitCond v e).thresh = s.thresh := rfl
@[simp] theorem State.emitCond_ptp (v : BitVec 8) (e : Bool) : (s.emitCond v e).ptp = s.ptp := rfl
@[simp] theorem State.emitCond_cond (v : BitVec 8) (e : Bool) : (s.emitCond v e).cond = s.cond := rfl
@[simp] theorem State.emitCond_mode (v : BitVec 8) (e : Bool) : (s.emitCond v e).mode = s.mode := rfl
@[simp] theorem State.emitCond_carrier (v : BitVec 8) (e : Bool) : (s.emitCond v e).carrier = s.carrier := rfl
@[simp] theorem State.emitCond_ptt (v : BitVec 8) (e : Bool) : (s.emitCond v e).ptt = s.ptt := rfl
@[simp] theorem State.emitCond_adcEn (v : BitVec 8) (e : Bool) : (s.emitCond v e).adcEn = s.adcEn := rfl
@[simp] theorem State.emitCond_outEn (v : BitVec 8) (e : Bool) : (s.emitCond v e).outEn = s.outEn := rfl
@[simp] theorem State.emitCond_protoErr (v : BitVec 8) (e : Bool) : (s.emitCond v e).protoErr = s.protoErr := rfl
@[simp] theorem State.emitCond_illErr (v : BitVec 8) (e : Bool) : (s.emitCond v e).illErr = s.illErr := rfl
@[simp] theorem State.emitCond_fatal (v : BitVec 8) (e : Bool) : (s.emitCond v e).fatal = s.fatal := rfl
@[simp] theorem State.emitCond_strat (v : BitVec 8) (e : Bool) : (s.emitCond v e).strat = s.strat := rfl
@[simp] theorem State.emitCond_inited (v : BitVec 8) (e : Bool) : (s.emitCond v e).inited = s.inited := rfl
@[simp] theorem State.emitCond_chan (v : BitVec 8) (e : Bool) : (s.emitCond v e).chan = s.chan := rfl
@[simp] theorem State.emitCond_duty (v : BitVec 8) (e : Bool) : (s.emitCond v e).duty = s.duty := rfl
@[simp] theorem State.emitCond_port (v : BitVec 8) (e : Bool) : (s.emitCond v e).port = s.port := rfl
@[simp] theorem State.emitCond_rvalid (v : BitVec 8) (e : Bool) : (s.emitCond v e).rvalid = s.rvalid := rfl
@[simp] theorem State.emitCond_rdata (v : BitVec 8) (e : Bool) : (s.emitCond v e).rdata = s.rdata := rfl
@[simp] theorem State.emitCond_condValid (v : BitVec 8) (e : Bool) : (s.emitCond v e).condValid = true := rfl
@[simp] theorem State.emitCond_condOut (v : BitVec 8) (e : Bool) : (s.emitCond v e).condOut = v := rfl
@[simp] theorem State.emitCond_carrierEdge (v : BitVec 8) (e : Bool) : (s.emitCond v e).carrierEdge = e := rfl
@[simp] theorem State.emitCond_params (v : BitVec 8) (e : Bool) : (s.emitCond v e).params = s.params := rfl
@[simp] theorem State.emitCond_inputs (v : BitVec 8) (e : Bool) : (s.emitCond v e).inputs = s.inputs := rfl

/-! #### pushSample -/

@[simp] theorem State.pushSample_ring (a : BitVec 8) : (s.pushSample a).ring = s.ring.set s.pos a := rfl
@[simp] theorem State.pushSample_pos (a : BitVec 8) : (s.pushSample a).pos = s.pos + 1 := rfl
@[simp] theorem State.pushSample_gain (a : BitVec 8) : (s.pushSample a).gain = s.gain := rfl
@[simp] theorem State.pushSample_thresh (a : BitVec 8) : (s.pushSample a).thresh = s.thresh := rfl
@[simp] theorem State.pushSample_ptp (a : BitVec 8) : (s.pushSample a).ptp = s.ptp := rfl
@[simp] theorem State.pushSample_cond (a : BitVec 8) : (s.pushSample a).cond = s.cond := rfl
@[simp] theorem State.pushSample_mode (a : BitVec 8) : (s.pushSample a).mode = s.mode := rfl
@[simp] theorem State.pushSample_carrier (a : BitVec 8) : (s.pushSample a).carrier = s.carrier := rfl
@[simp] theorem State.pushSample_ptt (a : BitVec 8) : (s.pushSample a).ptt = s.ptt := rfl
@[simp] theorem State.pushSample_adcEn (a : BitVec 8) : (s.pushSample a).adcEn = s.adcEn := rfl
@[simp] theorem State.pushSample_outEn (a : BitVec 8) : (s.pushSample a).outEn = s.outEn := rfl
@[simp] theorem State.pushSample_protoErr (a : BitVec 8) : (s.pushSample a).protoErr = s.protoErr := rfl
@[simp] theorem State.pushSample_illErr (a : BitVec 8) : (s.pushSample a).illErr = s.illErr := rfl
@[simp] theorem State.pushSample_fatal (a : BitVec 8) : (s.pushSample a).fatal = s.fatal := rfl
@[simp] theorem State.pushSample_strat (a : BitVec 8) : (s.pushSample a).strat = s.strat := rfl
@[simp] theorem State.pushSample_inited (a : BitVec 8) : (s.pushSample a).inited = s.inited := rfl
@[simp] theorem State.pushSample_chan (a : BitVec 8) : (s.pushSample a).chan = s.chan := rfl
@[simp] theorem State.pushSample_duty (a : BitVec 8) : (s.pushSample a).duty = s.duty := rfl
@[simp] theorem State.pushSample_port (a : BitVec 8) : (s.pushSample a).port = s.port := rfl
@[simp] theorem State.pushSample_rvalid (a : BitVec 8) : (s.pushSample a).rvalid = s.rvalid := rfl
@[simp] theorem State.pushSample_rdata (a : BitVec 8) : (s.pushSample a).rdata = s.rdata := rfl
@[simp] theorem State.pushSample_condValid (a : BitVec 8) : (s.pushSample a).condValid = s.condValid := rfl
@[simp] theorem State.pushSample_condOut (a : BitVec 8) : (s.pushSample a).condOut = s.condOut := rfl
@[simp] theorem State.pushSample_carrierEdge (a : BitVec 8) : (s.pushSample a).carrierEdge = s.carrierEdge := rfl
@[simp] theorem State.pushSample_params (a : BitVec 8) : (s.pushSample a).params = s.params := rfl
@[simp] theorem State.pushSample_inputs (a : BitVec 8) : (s.pushSample a).inputs = s.inputs := rfl

/-! #### recordSample -/

@[simp] theorem State.recordSample_ring (p c : BitVec 8) (b : Bool) : (s.recordSample p c b).ring = s.ring := rfl
@[simp] theorem State.recordSample_pos (p c : BitVec 8) (b : Bool) : (s.recordSample p c b).pos = s.pos := rfl
@[simp] theorem State.recordSample_gain (p c : BitVec 8) (b : Bool) : (s.recordSample p c b).gain = s.gain := rfl
@[simp] theorem State.recordSample_thresh (p c : BitVec 8) (b : Bool) : (s.recordSample p c b).thresh = s.thresh := rfl
@[simp] theorem State.recordSample_ptp (p c : BitVec 8) (b : Bool) : (s.recordSample p c b).ptp = p := rfl
@[simp] theorem State.recordSample_cond (p c : BitVec 8) (b : Bool) : (s.recordSample p c b).cond = c := rfl
@[simp] theorem State.recordSample_mode (p c : BitVec 8) (b : Bool) : (s.recordSample p c b).mode = s.mode := rfl
@[simp] theorem State.recordSample_carrier (p c : BitVec 8) (b : Bool) : (s.recordSample p c b).carrier = b := rfl
@[simp] theorem State.recordSample_ptt (p c : BitVec 8) (b : Bool) : (s.recordSample p c b).ptt = s.ptt := rfl
@[simp] theorem State.recordSample_adcEn (p c : BitVec 8) (b : Bool) : (s.recordSample p c b).adcEn = s.adcEn := rfl
@[simp] theorem State.recordSample_outEn (p c : BitVec 8) (b : Bool) : (s.recordSample p c b).outEn = s.outEn := rfl
@[simp] theorem State.recordSample_protoErr (p c : BitVec 8) (b : Bool) : (s.recordSample p c b).protoErr = s.protoErr := rfl
@[simp] theorem State.recordSample_illErr (p c : BitVec 8) (b : Bool) : (s.recordSample p c b).illErr = s.illErr := rfl
@[simp] theorem State.recordSample_fatal (p c : BitVec 8) (b : Bool) : (s.recordSample p c b).fatal = s.fatal := rfl
@[simp] theorem State.recordSample_strat (p c : BitVec 8) (b : Bool) : (s.recordSample p c b).strat = s.strat := rfl
@[simp] theorem State.recordSample_inited (p c : BitVec 8) (b : Bool) : (s.recordSample p c b).inited = s.inited := rfl
@[simp] theorem State.recordSample_chan (p c : BitVec 8) (b : Bool) : (s.recordSample p c b).chan = s.chan := rfl
@[simp] theorem State.recordSample_duty (p c : BitVec 8) (b : Bool) : (s.recordSample p c b).duty = s.duty := rfl
@[simp] theorem State.recordSample_port (p c : BitVec 8) (b : Bool) : (s.recordSample p c b).port = s.port := rfl
@[simp] theorem State.recordSample_rvalid (p c : BitVec 8) (b : Bool) : (s.recordSample p c b).rvalid = s.rvalid := rfl
@[simp] theorem State.recordSample_rdata (p c : BitVec 8) (b : Bool) : (s.recordSample p c b).rdata = s.rdata := rfl
@[simp] theorem State.recordSample_condValid (p c : BitVec 8) (b : Bool) : (s.recordSample p c b).condValid = s.condValid := rfl
@[simp] theorem State.recordSample_condOut (p c : BitVec 8) (b : Bool) : (s.recordSample p c b).condOut = s.condOut := rfl
@[simp] theorem State.recordSample_carrierEdge (p c : BitVec 8) (b : Bool) : (s.recordSample p c b).carrierEdge = s.carrierEdge := rfl
@[simp] theorem State.recordSample_params (p c : BitVec 8) (b : Bool) : (s.recordSample p c b).params = s.params := rfl
@[simp] theorem State.recordSample_inputs (p c : BitVec 8) (b : Bool) : (s.recordSample p c b).inputs = s.inputs := rfl

/-! #### unkeyTransmitter -/

@[simp] theorem State.unkeyTransmitter_ring : s.unkeyTransmitter.ring = s.ring := rfl
@[simp] theorem State.unkeyTransmitter_pos : s.unkeyTransmitter.pos = s.pos := rfl
@[simp] theorem State.unkeyTransmitter_gain : s.unkeyTransmitter.gain = s.gain := rfl
@[simp] theorem State.unkeyTransmitter_thresh : s.unkeyTransmitter.thresh = s.thresh := rfl
@[simp] theorem State.unkeyTransmitter_ptp : s.unkeyTransmitter.ptp = s.ptp := rfl
@[simp] theorem State.unkeyTransmitter_cond : s.unkeyTransmitter.cond = s.cond := rfl
@[simp] theorem State.unkeyTransmitter_mode : s.unkeyTransmitter.mode = .receiving := rfl
@[simp] theorem State.unkeyTransmitter_carrier : s.unkeyTransmitter.carrier = s.carrier := rfl
@[simp] theorem State.unkeyTransmitter_ptt : s.unkeyTransmitter.ptt = false := rfl
@[simp] theorem State.unkeyTransmitter_adcEn : s.unkeyTransmitter.adcEn = true := rfl
@[simp] theorem State.unkeyTransmitter_outEn : s.unkeyTransmitter.outEn = false := rfl
@[simp] theorem State.unkeyTransmitter_protoErr : s.unkeyTransmitter.protoErr = s.protoErr := rfl
@[simp] theorem State.unkeyTransmitter_illErr : s.unkeyTransmitter.illErr = s.illErr := rfl
@[simp] theorem State.unkeyTransmitter_fatal : s.unkeyTransmitter.fatal = s.fatal := rfl
@[simp] theorem State.unkeyTransmitter_strat : s.unkeyTransmitter.strat = s.strat := rfl
@[simp] theorem State.unkeyTransmitter_inited : s.unkeyTransmitter.inited = s.inited := rfl
@[simp] theorem State.unkeyTransmitter_chan : s.unkeyTransmitter.chan = s.chan := rfl
@[simp] theorem State.unkeyTransmitter_duty : s.unkeyTransmitter.duty = s.duty := rfl
@[simp] theorem State.unkeyTransmitter_port : s.unkeyTransmitter.port = s.port := rfl
@[simp] theorem State.unkeyTransmitter_rvalid : s.unkeyTransmitter.rvalid = s.rvalid := rfl
@[simp] theorem State.unkeyTransmitter_rdata : s.unkeyTransmitter.rdata = s.rdata := rfl
@[simp] theorem State.unkeyTransmitter_condValid : s.unkeyTransmitter.condValid = s.condValid := rfl
@[simp] theorem State.unkeyTransmitter_condOut : s.unkeyTransmitter.condOut = s.condOut := rfl
@[simp] theorem State.unkeyTransmitter_carrierEdge : s.unkeyTransmitter.carrierEdge = s.carrierEdge := rfl
@[simp] theorem State.unkeyTransmitter_params : s.unkeyTransmitter.params = s.params := rfl
@[simp] theorem State.unkeyTransmitter_inputs : s.unkeyTransmitter.inputs = s.inputs := rfl

/-! #### keyTransmitter -/

@[simp] theorem State.keyTransmitter_ring : s.keyTransmitter.ring = s.ring := rfl
@[simp] theorem State.keyTransmitter_pos : s.keyTransmitter.pos = s.pos := rfl
@[simp] theorem State.keyTransmitter_gain : s.keyTransmitter.gain = s.gain := rfl
@[simp] theorem State.keyTransmitter_thresh : s.keyTransmitter.thresh = s.thresh := rfl
@[simp] theorem State.keyTransmitter_ptp : s.keyTransmitter.ptp = s.ptp := rfl
@[simp] theorem State.keyTransmitter_cond : s.keyTransmitter.cond = s.cond := rfl
@[simp] theorem State.keyTransmitter_mode : s.keyTransmitter.mode = .transmitting := rfl
@[simp] theorem State.keyTransmitter_carrier : s.keyTransmitter.carrier = s.carrier := rfl
@[simp] theorem State.keyTransmitter_ptt : s.keyTransmitter.ptt = true := rfl
@[simp] theorem State.keyTransmitter_outEn : s.keyTransmitter.outEn = true := rfl
@[simp] theorem State.keyTransmitter_protoErr : s.keyTransmitter.protoErr = s.protoErr := rfl
@[simp] theorem State.keyTransmitter_illErr : s.keyTransmitter.illErr = s.illErr := rfl
@[simp] theorem State.keyTransmitter_fatal : s.keyTransmitter.fatal = s.fatal := rfl
@[simp] theorem State.keyTransmitter_strat : s.keyTransmitter.strat = s.strat := rfl
@[simp] theorem State.keyTransmitter_inited : s.keyTransmitter.inited = s.inited := rfl
@[simp] theorem State.keyTransmitter_chan : s.keyTransmitter.chan = s.chan := rfl
@[simp] theorem State.keyTransmitter_duty : s.keyTransmitter.duty = s.duty := rfl
@[simp] theorem State.keyTransmitter_port : s.keyTransmitter.port = s.port := rfl
@[simp] theorem State.keyTransmitter_rvalid : s.keyTransmitter.rvalid = s.rvalid := rfl
@[simp] theorem State.keyTransmitter_rdata : s.keyTransmitter.rdata = s.rdata := rfl
@[simp] theorem State.keyTransmitter_condValid : s.keyTransmitter.condValid = s.condValid := rfl
@[simp] theorem State.keyTransmitter_condOut : s.keyTransmitter.condOut = s.condOut := rfl
@[simp] theorem State.keyTransmitter_carrierEdge : s.keyTransmitter.carrierEdge = s.carrierEdge := rfl
@[simp] theorem State.keyTransmitter_params : s.keyTransmitter.params = s.params := rfl
@[simp] theorem State.keyTransmitter_inputs : s.keyTransmitter.inputs = s.inputs := rfl

/-! #### bindChannel -/

@[simp] theorem State.bindChannel_ring (c : BitVec 7) : (s.bindChannel c).ring = s.ring := rfl
@[simp] theorem State.bindChannel_pos (c : BitVec 7) : (s.bindChannel c).pos = s.pos := rfl
@[simp] theorem State.bindChannel_gain (c : BitVec 7) : (s.bindChannel c).gain = s.gain := rfl
@[simp] theorem State.bindChannel_thresh (c : BitVec 7) : (s.bindChannel c).thresh = s.thresh := rfl
@[simp] theorem State.bindChannel_ptp (c : BitVec 7) : (s.bindChannel c).ptp = s.ptp := rfl
@[simp] theorem State.bindChannel_cond (c : BitVec 7) : (s.bindChannel c).cond = s.cond := rfl
@[simp] theorem State.bindChannel_mode (c : BitVec 7) : (s.bindChannel c).mode = s.mode := rfl
@[simp] theorem State.bindChannel_carrier (c : BitVec 7) : (s.bindChannel c).carrier = s.carrier := rfl
@[simp] theorem State.bindChannel_ptt (c : BitVec 7) : (s.bindChannel c).ptt = s.ptt := rfl
@[simp] theorem State.bindChannel_adcEn (c : BitVec 7) : (s.bindChannel c).adcEn = true := rfl
@[simp] theorem State.bindChannel_outEn (c : BitVec 7) : (s.bindChannel c).outEn = s.outEn := rfl
@[simp] theorem State.bindChannel_protoErr (c : BitVec 7) : (s.bindChannel c).protoErr = s.protoErr := rfl
@[simp] theorem State.bindChannel_illErr (c : BitVec 7) : (s.bindChannel c).illErr = s.illErr := rfl
@[simp] theorem State.bindChannel_fatal (c : BitVec 7) : (s.bindChannel c).fatal = s.fatal := rfl
@[simp] theorem State.bindChannel_strat (c : BitVec 7) : (s.bindChannel c).strat = s.strat := rfl
@[simp] theorem State.bindChannel_inited (c : BitVec 7) : (s.bindChannel c).inited = true := rfl
@[simp] theorem State.bindChannel_chan (c : BitVec 7) : (s.bindChannel c).chan = c := rfl
@[simp] theorem State.bindChannel_duty (c : BitVec 7) : (s.bindChannel c).duty = s.duty := rfl
@[simp] theorem State.bindChannel_port (c : BitVec 7) : (s.bindChannel c).port = s.port := rfl
@[simp] theorem State.bindChannel_rvalid (c : BitVec 7) : (s.bindChannel c).rvalid = s.rvalid := rfl
@[simp] theorem State.bindChannel_rdata (c : BitVec 7) : (s.bindChannel c).rdata = s.rdata := rfl
@[simp] theorem State.bindChannel_condValid (c : BitVec 7) : (s.bindChannel c).condValid = s.condValid := rfl
@[simp] theorem State.bindChannel_condOut (c : BitVec 7) : (s.bindChannel c).condOut = s.condOut := rfl
@[simp] theorem State.bindChannel_carrierEdge (c : BitVec 7) : (s.bindChannel c).carrierEdge = s.carrierEdge := rfl
@[simp] theorem State.bindChannel_params (c : BitVec 7) : (s.bindChannel c).params = s.params := rfl
@[simp] theorem State.bindChannel_inputs (c : BitVec 7) : (s.bindChannel c).inputs = s.inputs := rfl

/-! #### present -/

@[simp] theorem State.present_ring (w : BitVec 16) : (s.present w).ring = s.ring := rfl
@[simp] theorem State.present_pos (w : BitVec 16) : (s.present w).pos = s.pos := rfl
@[simp] theorem State.present_gain (w : BitVec 16) : (s.present w).gain = s.gain := rfl
@[simp] theorem State.present_thresh (w : BitVec 16) : (s.present w).thresh = s.thresh := rfl
@[simp] theorem State.present_ptp (w : BitVec 16) : (s.present w).ptp = s.ptp := rfl
@[simp] theorem State.present_cond (w : BitVec 16) : (s.present w).cond = s.cond := rfl
@[simp] theorem State.present_mode (w : BitVec 16) : (s.present w).mode = s.mode := rfl
@[simp] theorem State.present_carrier (w : BitVec 16) : (s.present w).carrier = s.carrier := rfl
@[simp] theorem State.present_ptt (w : BitVec 16) : (s.present w).ptt = s.ptt := rfl
@[simp] theorem State.present_adcEn (w : BitVec 16) : (s.present w).adcEn = s.adcEn := rfl
@[simp] theorem State.present_outEn (w : BitVec 16) : (s.present w).outEn = s.outEn := rfl
@[simp] theorem State.present_protoErr (w : BitVec 16) : (s.present w).protoErr = s.protoErr := rfl
@[simp] theorem State.present_illErr (w : BitVec 16) : (s.present w).illErr = s.illErr := rfl
@[simp] theorem State.present_fatal (w : BitVec 16) : (s.present w).fatal = s.fatal := rfl
@[simp] theorem State.present_strat (w : BitVec 16) : (s.present w).strat = s.strat := rfl
@[simp] theorem State.present_inited (w : BitVec 16) : (s.present w).inited = s.inited := rfl
@[simp] theorem State.present_chan (w : BitVec 16) : (s.present w).chan = s.chan := rfl
@[simp] theorem State.present_duty (w : BitVec 16) : (s.present w).duty = s.duty := rfl
@[simp] theorem State.present_port (w : BitVec 16) : (s.present w).port = s.port := rfl
@[simp] theorem State.present_rvalid (w : BitVec 16) : (s.present w).rvalid = s.rvalid := rfl
@[simp] theorem State.present_rdata (w : BitVec 16) : (s.present w).rdata = s.rdata := rfl
@[simp] theorem State.present_condValid (w : BitVec 16) : (s.present w).condValid = s.condValid := rfl
@[simp] theorem State.present_condOut (w : BitVec 16) : (s.present w).condOut = s.condOut := rfl
@[simp] theorem State.present_carrierEdge (w : BitVec 16) : (s.present w).carrierEdge = s.carrierEdge := rfl
@[simp] theorem State.present_params (w : BitVec 16) : (s.present w).params = s.params := rfl
@[simp] theorem State.present_inputs (w : BitVec 16) : (s.present w).inputs = PinsIn.word w :: s.inputs := rfl

/-- ADC_EN after START_TX: cleared under the pulse-width strategy, kept under compare-match (R160). -/
theorem State.keyTransmitter_adcEn :
    s.keyTransmitter.adcEn = if s.strat = .pulseWidth then false else s.adcEn := by
  cases h : s.strat <;> simp [State.keyTransmitter, h]

/-! #### setFlag -/

@[simp] theorem State.setFlag_ring (c : ErrorFlag) : (s.setFlag c).ring = s.ring := by cases c <;> rfl
@[simp] theorem State.setFlag_pos (c : ErrorFlag) : (s.setFlag c).pos = s.pos := by cases c <;> rfl
@[simp] theorem State.setFlag_gain (c : ErrorFlag) : (s.setFlag c).gain = s.gain := by cases c <;> rfl
@[simp] theorem State.setFlag_thresh (c : ErrorFlag) : (s.setFlag c).thresh = s.thresh := by cases c <;> rfl
@[simp] theorem State.setFlag_ptp (c : ErrorFlag) : (s.setFlag c).ptp = s.ptp := by cases c <;> rfl
@[simp] theorem State.setFlag_cond (c : ErrorFlag) : (s.setFlag c).cond = s.cond := by cases c <;> rfl
@[simp] theorem State.setFlag_mode (c : ErrorFlag) : (s.setFlag c).mode = s.mode := by cases c <;> rfl
@[simp] theorem State.setFlag_carrier (c : ErrorFlag) : (s.setFlag c).carrier = s.carrier := by cases c <;> rfl
@[simp] theorem State.setFlag_ptt (c : ErrorFlag) : (s.setFlag c).ptt = s.ptt := by cases c <;> rfl
@[simp] theorem State.setFlag_adcEn (c : ErrorFlag) : (s.setFlag c).adcEn = s.adcEn := by cases c <;> rfl
@[simp] theorem State.setFlag_outEn (c : ErrorFlag) : (s.setFlag c).outEn = s.outEn := by cases c <;> rfl
@[simp] theorem State.setFlag_strat (c : ErrorFlag) : (s.setFlag c).strat = s.strat := by cases c <;> rfl
@[simp] theorem State.setFlag_inited (c : ErrorFlag) : (s.setFlag c).inited = s.inited := by cases c <;> rfl
@[simp] theorem State.setFlag_chan (c : ErrorFlag) : (s.setFlag c).chan = s.chan := by cases c <;> rfl
@[simp] theorem State.setFlag_duty (c : ErrorFlag) : (s.setFlag c).duty = s.duty := by cases c <;> rfl
@[simp] theorem State.setFlag_port (c : ErrorFlag) : (s.setFlag c).port = s.port := by cases c <;> rfl
@[simp] theorem State.setFlag_rvalid (c : ErrorFlag) : (s.setFlag c).rvalid = s.rvalid := by cases c <;> rfl
@[simp] theorem State.setFlag_rdata (c : ErrorFlag) : (s.setFlag c).rdata = s.rdata := by cases c <;> rfl
@[simp] theorem State.setFlag_condValid (c : ErrorFlag) : (s.setFlag c).condValid = s.condValid := by cases c <;> rfl
@[simp] theorem State.setFlag_condOut (c : ErrorFlag) : (s.setFlag c).condOut = s.condOut := by cases c <;> rfl
@[simp] theorem State.setFlag_carrierEdge (c : ErrorFlag) : (s.setFlag c).carrierEdge = s.carrierEdge := by cases c <;> rfl
@[simp] theorem State.setFlag_params (c : ErrorFlag) : (s.setFlag c).params = s.params := by cases c <;> rfl
@[simp] theorem State.setFlag_inputs (c : ErrorFlag) : (s.setFlag c).inputs = s.inputs := by cases c <;> rfl

/-- Recording an error sets the flag of its own condition and keeps the other two (R210). -/
theorem State.setFlag_flags (c : ErrorFlag) :
    (s.setFlag c).protoErr = (s.protoErr || c == .protoErr) ∧ (s.setFlag c).illErr = (s.illErr || c == .illErr) ∧
      (s.setFlag c).fatal = (s.fatal || c == .fatal) := by
  cases c <;> simp [State.setFlag]

/-! #### applyReset -/

@[simp] theorem State.applyReset_ring (b : Bool) : (s.applyReset b).ring = Vector.replicate 32 ringFill := rfl
@[simp] theorem State.applyReset_pos (b : Bool) : (s.applyReset b).pos = 0 := rfl
@[simp] theorem State.applyReset_gain (b : Bool) : (s.applyReset b).gain = 0x00 := rfl
@[simp] theorem State.applyReset_thresh (b : Bool) : (s.applyReset b).thresh = 0x00 := rfl
@[simp] theorem State.applyReset_ptp (b : Bool) : (s.applyReset b).ptp = 0x00 := rfl
@[simp] theorem State.applyReset_cond (b : Bool) : (s.applyReset b).cond = 0x00 := rfl
@[simp] theorem State.applyReset_mode (b : Bool) : (s.applyReset b).mode = .receiving := rfl
@[simp] theorem State.applyReset_carrier (b : Bool) : (s.applyReset b).carrier = false := rfl
@[simp] theorem State.applyReset_ptt (b : Bool) : (s.applyReset b).ptt = false := rfl
@[simp] theorem State.applyReset_adcEn (b : Bool) : (s.applyReset b).adcEn = false := rfl
@[simp] theorem State.applyReset_outEn (b : Bool) : (s.applyReset b).outEn = false := rfl
@[simp] theorem State.applyReset_protoErr (b : Bool) : (s.applyReset b).protoErr = false := rfl
@[simp] theorem State.applyReset_illErr (b : Bool) : (s.applyReset b).illErr = false := rfl
@[simp] theorem State.applyReset_fatal (b : Bool) : (s.applyReset b).fatal = false := rfl
@[simp] theorem State.applyReset_strat (b : Bool) : (s.applyReset b).strat = Strategy.ofStrap b := rfl
@[simp] theorem State.applyReset_inited (b : Bool) : (s.applyReset b).inited = false := rfl
@[simp] theorem State.applyReset_chan (b : Bool) : (s.applyReset b).chan = 0 := rfl
@[simp] theorem State.applyReset_duty (b : Bool) : (s.applyReset b).duty = 0x80 := rfl
@[simp] theorem State.applyReset_port (b : Bool) : (s.applyReset b).port = 0x00 := rfl
@[simp] theorem State.applyReset_rvalid (b : Bool) : (s.applyReset b).rvalid = false := rfl
@[simp] theorem State.applyReset_rdata (b : Bool) : (s.applyReset b).rdata = 0x00 := rfl
@[simp] theorem State.applyReset_condValid (b : Bool) : (s.applyReset b).condValid = false := rfl
@[simp] theorem State.applyReset_condOut (b : Bool) : (s.applyReset b).condOut = 0x00 := rfl
@[simp] theorem State.applyReset_carrierEdge (b : Bool) : (s.applyReset b).carrierEdge = false := rfl
@[simp] theorem State.applyReset_params (b : Bool) : (s.applyReset b).params = s.params := rfl
@[simp] theorem State.applyReset_inputs (b : Bool) : (s.applyReset b).inputs = s.inputs := rfl

/-! #### The halted gate -/

/-- While halted an operation changes nothing (R214). -/
theorem State.unlessHalted_of_fatal {s after : State} (h : s.fatal = true) : s.unlessHalted after = s := if_pos h

/-- Otherwise it has its effect. -/
theorem State.unlessHalted_of_running {s after : State} (h : s.fatal = false) : s.unlessHalted after = after :=
  if_neg (by simp [h])

/-! #### The next cycle's pins -/

theorem State.pins_of_nil {s : State} (h : s.inputs = []) : s.pins = PinsIn.idle := by simp [State.pins, h]

theorem State.pins_of_cons {s : State} {p : PinsIn} {rest : List PinsIn} (h : s.inputs = p :: rest) : s.pins = p := by
  simp [State.pins, h]

@[simp] theorem State.present_pins (w : BitVec 16) : (s.present w).pins = PinsIn.word w := rfl

end Sys2Proof.Machine
end

