-- ==== Sys2Proof/Laws/Step.lean ====
section
/-!
SUPPORT. What a step can do, said once (43_host_interface.md R202): the four kinds of cycle, and one inversion lemma of the
step; and for each meaning the next state it answers.
-/

namespace Sys2Proof.Machine

/-- A reset edge (R240). -/
theorem step_of_reset {s : State} (h : s.pins.rst = true) :
    step s = .next (s.beginCycle.applyReset s.pins.stratSel) := by
  simp [step, nextCycle, cycleWith, h]

/-- A cycle with `op_valid` = 0 (R202). -/
theorem step_of_idle {s : State} (hr : s.pins.rst = false) (hv : s.pins.opValid = false) :
    step s = .next s.beginCycle := by
  simp [step, nextCycle, cycleWith, hr, hv]

/-- A cycle that presents a word (R202). -/
theorem step_of_word {s : State} (hr : s.pins.rst = false) (hv : s.pins.opValid = true) :
    step s = runWord s.pins.opWord s.beginCycle := by
  simp [step, nextCycle, cycleWith, hr, hv]

/-- A word that decodes to an operation. -/
theorem runWord_of_op {w : BitVec 16} {i : Instr} {s : State} (h : decode w = .op i) : runWord w s = exec i s := by
  simp [runWord, h]

/-- An ILLEGAL word (R200). -/
theorem runWord_of_illegal {w : BitVec 16} {why : IllegalWord} {s : State} (h : decode w = .illegal why) :
    runWord w s = .next (s.unlessHalted (s.setFlag .illErr)) := by
  simp [runWord, h, execIllegal]

/-- An ILLEGAL_READ word (R201). -/
theorem runWord_of_illegalRead {w : BitVec 16} {why : IllegalRead} {s : State} (h : decode w = .illegalRead why) :
    runWord w s = .next ((s.unlessHalted (s.setFlag .illErr)).emitRd 0x00) := by
  simp [runWord, h, execIllegalRead]

/-- If a step answers `t`, the cycle was a reset cycle, an idle cycle, or presented an operation, an ILLEGAL word or an
ILLEGAL_READ word, and `t` is what that cycle leaves. -/
theorem step_cases {s t : State} (h : step s = .next t) :
    (s.pins.rst = true ∧ t = s.beginCycle.applyReset s.pins.stratSel) ∨
    (s.pins.rst = false ∧ s.pins.opValid = false ∧ t = s.beginCycle) ∨
    (s.pins.rst = false ∧ s.pins.opValid = true ∧
      ((∃ i, decode s.pins.opWord = .op i ∧ exec i s.beginCycle = .next t) ∨
       (∃ why, decode s.pins.opWord = .illegal why ∧
          t = s.beginCycle.unlessHalted (s.beginCycle.setFlag .illErr)) ∨
       (∃ why, decode s.pins.opWord = .illegalRead why ∧
          t = (s.beginCycle.unlessHalted (s.beginCycle.setFlag .illErr)).emitRd 0x00))) := by
  cases hr : s.pins.rst with
  | true => rw [step_of_reset hr] at h; exact .inl ⟨rfl, by cases h; rfl⟩
  | false =>
    cases hv : s.pins.opValid with
    | false => rw [step_of_idle hr hv] at h; exact .inr (.inl ⟨rfl, rfl, by cases h; rfl⟩)
    | true =>
      rw [step_of_word hr hv] at h
      refine .inr (.inr ⟨rfl, rfl, ?_⟩)
      cases hd : decode s.pins.opWord with
      | op i => exact .inl ⟨i, rfl, by rwa [runWord_of_op hd] at h⟩
      | illegal why => rw [runWord_of_illegal hd] at h; exact .inr (.inl ⟨why, rfl, by cases h; rfl⟩)
      | illegalRead why => rw [runWord_of_illegalRead hd] at h; exact .inr (.inr ⟨why, rfl, by cases h; rfl⟩)

/-- Every operation answers a next state: "no outcome is a hang, a trap or a nondeterministic choice" (R202). -/
theorem exec_answers_next (i : Instr) (s : State) : ∃ t, exec i s = .next t := by
  cases i <;> exact ⟨_, rfl⟩

/-! What each operation answers, in terms of the shared operations. -/

theorem exec_nop (s : State) : exec .nop s = .next s := rfl

theorem exec_sample (adc : BitVec 10) (s : State) :
    exec (.sample adc) s = .next (s.unlessHalted (if s.adcEn then s.acceptSample adc else s)) := rfl

theorem exec_tick (b : BitVec 8) (s : State) :
    exec (.tick b) s = .next (s.unlessHalted (if s.outEn then s.acceptTick b else s)) := rfl

theorem exec_startTx (s : State) :
    exec .startTx s = .next (s.unlessHalted
      (if s.inited ∧ s.mode = .receiving then s.keyTransmitter else s.setFlag .protoErr)) := rfl

theorem exec_stopTx (s : State) :
    exec .stopTx s = .next (s.unlessHalted
      (if s.inited ∧ s.mode = .transmitting then s.unkeyTransmitter else s.setFlag .protoErr)) := rfl

theorem exec_clrErr (s : State) : exec .clrErr s = .next (s.unlessHalted s.clearErrors) := rfl

theorem exec_init (c : BitVec 8) (s : State) :
    exec (.init c) s = .next (s.unlessHalted
      (if s.inited then s.setFlag .protoErr
       else if channelSupported c s.params then s.bindChannel (channelField c) else s.setFlag .fatal)) := rfl

theorem exec_wrGain (v : BitVec 8) (s : State) :
    exec (.wrGain v) s = .next (s.unlessHalted { s with gain := v }) := rfl

theorem exec_wrThresh (v : BitVec 8) (s : State) :
    exec (.wrThresh v) s = .next (s.unlessHalted { s with thresh := v }) := rfl

theorem exec_wrPort (v : BitVec 8) (s : State) :
    exec (.wrPort v) s = .next (s.unlessHalted { s with port := portFromHost s.params.dacMask s.port v }) := rfl

/-- A legal read answers the register at its own address (R189): `a` runs through the map of R76. -/
theorem exec_read (s : State) :
    exec .rdCmd s = .next (s.answerRead 0x0) ∧ exec .rdInit s = .next (s.answerRead 0x1) ∧
    exec .rdGain s = .next (s.answerRead 0x2) ∧ exec .rdThresh s = .next (s.answerRead 0x3) ∧
    exec .rdStatus s = .next (s.answerRead 0x4) ∧ exec .rdPtp s = .next (s.answerRead 0x5) ∧
    exec .rdConfig s = .next (s.answerRead 0x6) ∧ exec .rdDuty s = .next (s.answerRead 0x7) ∧
    exec .rdPort s = .next (s.answerRead 0x8) ∧ exec .rdCond s = .next (s.answerRead 0x9) :=
  ⟨rfl, rfl, rfl, rfl, rfl, rfl, rfl, rfl, rfl, rfl⟩

end Sys2Proof.Machine
end

