-- ==== Sys2Proof/Laws/Run.lean ====
section
/-!
SUPPORT. Runs of the block: the two equations of the host's run at this machine, and the one induction over a run.
-/

namespace Sys2Proof.Machine

theorem run_zero (s : State) : core.run 0 s = .next s := rfl

/-- A run of one more step, on any machine of the host's interface. -/
theorem host_run_succ (M : Host.Core) (k : Nat) (s : M.State) :
    M.run (k + 1) s =
      match M.step s with
      | .next u => M.run k u
      | .fault r => .fault r
      | .refused r => .refused r := rfl

/-- On any machine: if a run of one more step answers, its first step did and the rest of the run did. -/
theorem host_run_succ_next {M : Host.Core} {k : Nat} {s t : M.State} (h : M.run (k + 1) s = .next t) :
    ∃ u, M.step s = .next u ∧ M.run k u = .next t := by
  rw [host_run_succ] at h
  cases hs : M.step s with
  | next u => exact ⟨u, rfl, by simpa [hs] using h⟩
  | fault r => simp [hs] at h
  | refused r => simp [hs] at h

/-- A run of one more step is a step and a run. -/
theorem run_succ_of_step {k : Nat} {s u : State} (h : step s = .next u) : core.run (k + 1) s = core.run k u := by
  have := host_run_succ core k s
  rwa [show core.step s = .next u from h] at this

/-- If a run of one more step answers, its first step did. -/
theorem step_of_run_succ {k : Nat} {s t : State} (h : core.run (k + 1) s = .next t) :
    ∃ u, step s = .next u ∧ core.run k u = .next t :=
  host_run_succ_next (M := core) h

/-- What holds at the start of a run and is kept by every step holds at its end. -/
theorem run_induction {P : State → Prop} (keep : ∀ s t : State, P s → step s = .next t → P t) :
    ∀ (k : Nat) (s t : State), P s → core.run k s = .next t → P t
  | 0, s, t, hs, h => by cases h; exact hs
  | k + 1, s, t, hs, h => by
    obtain ⟨u, hu, hr⟩ := step_of_run_succ h
    exact run_induction keep k u t (keep s u hs hu) hr

/-- What holds in a state and after an operation's effect holds after the operation behind the halted gate (R214). -/
theorem unlessHalted_elim {P : State → Prop} {s after : State} (hs : P s) (ha : s.fatal = false → P after) :
    P (s.unlessHalted after) := by
  cases hf : s.fatal with
  | true => rwa [State.unlessHalted_of_fatal hf]
  | false => rw [State.unlessHalted_of_running hf]; exact ha hf

/-- The samples accepted in one more cycle come first. -/
theorem accepted_succ_of_step {k : Nat} {s u : State} (h : step s = .next u) :
    s.accepted (k + 1) = s.nextAccepted.toList ++ u.accepted k := by
  rw [State.accepted, h]

end Sys2Proof.Machine
end

