-- ==== Sys2Proof/Tests/Slice0.lean ====
section
/-!
SUPPORT. Tests with results taken from the spec (95_test_vectors.md and the examples of the rules, never from the model),
the ill-formed source lines the check refuses, a word written out for every constructor, and for every obligation with
hypotheses a state and operands that meet them (`test_witness_<obligation>`).
-/

namespace Sys2Proof.Tests

open Sys2Proof.Machine

/-! ### Well-formedness: an ill-formed term for each check (R84, R85) -/

theorem test_illformed_sample : (SourceOp.sample 1024).wellFormed = false := by decide
theorem test_illformed_tick : (SourceOp.tick 256).wellFormed = false := by decide
theorem test_illformed_init : (SourceOp.init 256).wellFormed = false := by decide
theorem test_illformed_writes :
    (SourceOp.wrGain 256).wellFormed = false ∧ (SourceOp.wrThresh 256).wellFormed = false ∧
      (SourceOp.wrPort 256).wellFormed = false := by decide
theorem test_illformed_wr :
    (SourceOp.wr 16 0).wellFormed = false ∧ (SourceOp.wr 0 256).wellFormed = false := by decide
theorem test_illformed_rd : (SourceOp.rd 16).wellFormed = false := by decide
theorem test_illformed_word : (SourceOp.word 0x10000).wellFormed = false := by decide
theorem test_illformed_sampleRaw :
    (SourceOp.sampleRaw (-513)).wellFormed = false ∧ (SourceOp.sampleRaw 512).wellFormed = false := by decide
theorem test_illformed_rept :
    (SourceOp.rept 0 .nop).wellFormed = false ∧ (SourceOp.rept 2 (.tick 256)).wellFormed = false := by decide

/-! ### Decoding: words written out bit by bit from R72 to R77 -/

theorem test_decode_nop : decode 0b0000_0000_0000_0000 = .op .nop := by decide
theorem test_decode_sample : decode 0b0001_0010_0101_1000 = .op (.sample 0b10_0101_1000) := by decide
theorem test_decode_tick : decode 0b0010_0000_1010_0111 = .op (.tick 0b1010_0111) := by decide
theorem test_decode_startTx : decode 0b0011_0000_0000_0001 = .op .startTx := by decide
theorem test_decode_stopTx : decode 0b0011_0000_0000_0010 = .op .stopTx := by decide
theorem test_decode_clrErr : decode 0b0011_0000_0000_0011 = .op .clrErr := by decide
theorem test_decode_init : decode 0b0011_0001_1000_0101 = .op (.init 0x85) := by decide
theorem test_decode_wrGain : decode 0b0011_0010_0000_0101 = .op (.wrGain 5) := by decide
theorem test_decode_wrThresh : decode 0b0011_0011_0000_1010 = .op (.wrThresh 10) := by decide
theorem test_decode_wrPort : decode 0b0011_1000_0011_1100 = .op (.wrPort 0x3C) := by decide
theorem test_decode_reads :
    decode 0b0100_0000_0000_0000 = .op .rdCmd ∧ decode 0b0100_0001_0000_0000 = .op .rdInit ∧
    decode 0b0100_0010_0000_0000 = .op .rdGain ∧ decode 0b0100_0011_0000_0000 = .op .rdThresh ∧
    decode 0b0100_0100_0000_0000 = .op .rdStatus ∧ decode 0b0100_0101_0000_0000 = .op .rdPtp ∧
    decode 0b0100_0110_0000_0000 = .op .rdConfig ∧ decode 0b0100_0111_0000_0000 = .op .rdDuty ∧
    decode 0b0100_1000_0000_0000 = .op .rdPort ∧ decode 0b0100_1001_0000_0000 = .op .rdCond := by decide

/-- 95_test_vectors.md 2.8: the illegal words and their classes. -/
theorem test_decode_illegal :
    decode 0x0001 = .illegal .nopPayload ∧ decode 0x1400 = .illegal .samplePayload ∧
    decode 0x2100 = .illegal .tickPayload ∧ decode 0x3000 = .illegal .unknownCommand ∧
    decode 0x3004 = .illegal .unknownCommand ∧ decode 0x3400 = .illegal .readOnlyRegister ∧
    decode 0x3955 = .illegal .readOnlyRegister ∧ decode 0x3A00 = .illegal .reservedAddress ∧
    decode 0x3F12 = .illegal .reservedAddress ∧ decode 0x5000 = .illegal .reservedClass ∧
    decode 0xFFFF = .illegal .reservedClass ∧ decode 0x4401 = .illegalRead .payload ∧
    decode 0x4A00 = .illegalRead .reservedAddress ∧ decode 0x4F00 = .illegalRead .reservedAddress := by decide

/-- R84: the words of the assembler's column. -/
theorem test_encode_words :
    encode (.sample 700) = 0x12BC ∧ encode (.tick 0x3C) = 0x203C ∧ encode .startTx = 0x3001 ∧
      encode (.init 3) = 0x3103 ∧ encode (.wrPort 0xFF) = 0x38FF ∧ encode .rdCond = 0x4900 := by decide

theorem test_decodeTableWord :
    decodeTableWord 16 0x13FF = some (.sample 1023) ∧ decodeTableWord 16 0x1400 = none := by decide

/-! ### The assembler (R84, R85; the lines of 95_test_vectors.md section 3) -/

theorem test_parse_sample : parseLine "sample 0x258 ; 600" = some (some (.sample 600)) := by decide
theorem test_parse_repeat : parseLine "REPEAT 40, SAMPLE 512" = some (some (.rept 40 (.sample 512))) := by decide
theorem test_parse_comment : parseLine "   ; nothing" = some none := by decide
theorem test_parse_unknown : parseLine "JUMP 3" = none := by decide
theorem test_assemble : assemble (.sampleRaw (-512)) = some [0x1000] ∧ assemble (.wr 0x1 3) = some [0x3103] := by decide
theorem test_disassemble :
    disassembleText 0x1258 = "SAMPLE 600" ∧ disassembleText 0x4900 = "RD_COND" ∧
      disassembleText 0xFFFF = "ILLEGAL .word 65535" := by decide

/-! ### States the tests start from -/

/-- The state of an outcome. -/
def after (r : Result) : State :=
  match r with
  | .next t => t
  | .fault _ => State.reset
  | .refused _ => State.reset

/-- The outcome is a next state. -/
def answers (r : Result) : Bool :=
  match r with
  | .next _ => true
  | .fault _ => false
  | .refused _ => false

theorem next_after {r : Result} (h : answers r = true) : r = .next (after r) := by
  cases r with
  | next t => rfl
  | fault f => cases h
  | refused f => cases h

/-- After reset and `INIT 0`. -/
def receiving (st : Strategy) : State :=
  { State.afterReset Params.default st [] with inited := true, adcEn := true }

/-- After reset, `INIT 0` and `START_TX`. -/
def transmitting (st : Strategy) : State :=
  { State.afterReset Params.default st [] with
    inited := true, mode := .transmitting, ptt := true, outEn := true, adcEn := st == .compareMatch }

/-- After reset and `INIT 8`. -/
def halted : State := { State.reset with fatal := true }

theorem receiving_consistent (st : Strategy) : (receiving st).Consistent := by
  constructor <;> cases st <;> decide

theorem transmitting_consistent (st : Strategy) : (transmitting st).Consistent := by
  constructor <;> cases st <;> decide

theorem halted_consistent : halted.Consistent := by
  constructor <;> decide

/-! ### Vectors of 95_test_vectors.md -/

/-- 2.1: the attenuation table, four of its rows. -/
theorem test_attenuate :
    [0, 1, 2, 3, 4, 9, 255].map (attenuate 511) = [127, 127, 127, 63, 31, 0, 0] ∧
    [0, 1, 2, 3, 4, 9, 255].map (attenuate (-129)) = [-128, -65, -33, -17, -9, -1, -1] ∧
    [0, 1, 2, 3, 4, 9, 255].map (attenuate (-512)) = [-128, -128, -128, -64, -32, -1, -1] ∧
    [0, 1, 2, 3, 4, 9, 255].map (attenuate (-1)) = [-1, -1, -1, -1, -1, -1, -1] := by decide

/-- Program 3: the second SAMPLE 600 scans [88, -128 x 31]: sum -3880, bias -122, ptp 216, cond -6, car 1, edge 1. -/
def secondSample : State :=
  { receiving .pulseWidth with ring := (Vector.replicate 32 0x80).set 0 88, pos := 1, thresh := 10 }

theorem test_scan : ringSum secondSample.ring = -3880 ∧ ringBias secondSample.ring = -122 := by decide

theorem test_sample :
    (after (exec (.sample 600) secondSample)).ptp = 216 ∧ (after (exec (.sample 600) secondSample)).cond.toInt = -6 ∧
    (after (exec (.sample 600) secondSample)).carrier = true ∧
    (after (exec (.sample 600) secondSample)).carrierEdge = true ∧
    (after (exec (.sample 600) secondSample)).pos = 2 ∧
    (after (exec (.sample 600) secondSample)).ring[(1 : Fin 32)] = 88 := by decide +kernel

/-- 2.2, sample 32: 31 entries 127 and the fill at POS 31: sum 3809, bias 119, diff -247, which wraps to 9. -/
def wrapping : State :=
  { receiving .pulseWidth with ring := (Vector.replicate 32 127).set 31 0x80, pos := 31 }

theorem test_sample_wraps :
    dcDifference wrapping.ring wrapping.pos = -247 ∧ (after (exec (.sample 1023) wrapping)).cond = 9 ∧
      (after (exec (.sample 1023) wrapping)).pos = 0 := by decide

/-- 2.4: TICK under both strategies. -/
theorem test_tick_pulseWidth :
    (after (exec (.tick 0x3C) (transmitting .pulseWidth))).duty = 0x3C ∧
      (after (exec (.tick 0x3C) (transmitting .pulseWidth))).port = 0x00 := by decide

theorem test_tick_compareMatch :
    (after (exec (.tick 0xA7) { transmitting .compareMatch with port := 0x05 })).port = 0xA5 ∧
      (after (exec (.tick 0xA7) { transmitting .compareMatch with port := 0x05 })).duty = 0x80 := by decide

/-- 2.5: START_TX and STOP_TX, as STATUS values. -/
theorem test_startTx :
    (after (exec .startTx (receiving .pulseWidth))).statusByte = 0x15 ∧
    (after (exec .startTx (receiving .compareMatch))).statusByte = 0x1D ∧
    (after (exec .startTx (transmitting .pulseWidth))).statusByte = 0x35 ∧
    (after (exec .startTx State.reset)).statusByte = 0x20 := by decide

theorem test_stopTx :
    (after (exec .stopTx (transmitting .pulseWidth))).statusByte = 0x08 ∧
    (after (exec .stopTx (transmitting .compareMatch))).statusByte = 0x08 ∧
    (after (exec .stopTx (receiving .pulseWidth))).statusByte = 0x28 ∧
    (after (exec .stopTx State.reset)).statusByte = 0x20 := by decide

/-- 2.6: INIT, CLR_ERR and the writes. -/
theorem test_init :
    (after (exec (.init 7) State.reset)).initByte = 0x87 ∧ (after (exec (.init 7) State.reset)).statusByte = 0x08 ∧
    (after (exec (.init 8) State.reset)).initByte = 0x00 ∧ (after (exec (.init 8) State.reset)).statusByte = 0x80 := by
  decide

theorem test_init_again : (after (exec (.init 9) (receiving .pulseWidth))).statusByte = 0x28 := by decide

theorem test_clrErr :
    (after (exec .clrErr { transmitting .pulseWidth with protoErr := true, illErr := true })).statusByte = 0x15 := by
  decide

theorem test_wrPort :
    (after (exec (.wrPort 0xFF) State.reset)).port = 0x0F ∧
      (after (exec (.wrPort 0x3C) { receiving .compareMatch with port := 0xA5 })).port = 0xAC := by decide

/-- R76 reset column: the reads right after reset, with `strat_sel` = 1. -/
theorem test_reads_after_reset :
    [0x0, 0x1, 0x2, 0x3, 0x4, 0x5, 0x6, 0x7, 0x8, 0x9, 0xA].map (State.afterReset .default .compareMatch []).regRead =
      [0x00, 0x00, 0x00, 0x00, 0x00, 0x00, 0x01, 0x80, 0x00, 0x00, 0x00] := by decide

/-- 2.8: an illegal word sets ILL_ERR (STATUS 0x48); an illegal read is answered with 0x00. -/
theorem test_illegal :
    (after (step ((receiving .pulseWidth).feeding [0x3F12]))).statusByte = 0x48 ∧
    (after (step ((receiving .pulseWidth).feeding [0x4401]))).statusByte = 0x48 ∧
    (after (step ((receiving .pulseWidth).feeding [0x4401]))).rvalid = true ∧
    (after (step ((receiving .pulseWidth).feeding [0x4401]))).rdata = 0x00 := by decide

/-- 2.9: while halted CLR_ERR and INIT are ignored and a read is answered. -/
theorem test_halted :
    (after (step (halted.feeding [0x3003]))).statusByte = 0x80 ∧ (after (step (halted.feeding [0x3100]))).statusByte = 0x80 ∧
      (after (step (halted.feeding [0x4400]))).rdata = 0x80 := by decide

/-- R245: the strap is taken at the reset edge. -/
theorem test_reset_cycle :
    (after (step { halted with inputs := [PinsIn.reset true] })).strat = .compareMatch ∧
      (after (step { halted with inputs := [PinsIn.reset true] })).statusByte = 0x00 := by decide

/-- R45: the level outputs while transmitting under the compare-match strategy. -/
theorem test_pinsOut :
    (transmitting .compareMatch).pinsOut.ptt = true ∧ (transmitting .compareMatch).pinsOut.adcRun = true ∧
      (transmitting .compareMatch).pinsOut.tmrIrqEn = true ∧ (transmitting .compareMatch).pinsOut.pwmDuty = 0x80 := by
  decide

/-- A word placed on the port is run by the very next step, from reset. -/
theorem test_withFetchWord : (after (step (State.reset.withFetchWord 16 0x3205))).gain = 5 := by decide

/-! ### Witnesses: a state and operands that meet the hypotheses of each obligation that has some -/

theorem test_witness_EncodeOfDecode : decode 0x13FF = .op (.sample 1023) ∧ decode 0x1000 = .op (.sample 0) := by decide

theorem test_witness_DecodeFollowsOpcodeMap :
    (⟨"SAMPLE", 0x1000, 0xFC00⟩ : OpcodeRow) ∈ opcodeMap ∧ (⟨"SAMPLE", 0x1000, 0xFC00⟩ : OpcodeRow).covers 0x13FF = true ∧
    decode 0x20FF = .op (.tick 0xFF) ∧
    (∀ r ∈ opcodeMap, r.covers 0x4001 = false) ∧ (∀ r ∈ opcodeMap, r.covers 0x5000 = false) := by decide

theorem test_witness_AssemblerForms :
    assemble (.sample 1023) = some [0x13FF] ∧ assemble (.sample 1024) = none ∧ assemble (.tick 255) = some [0x20FF] ∧
    assemble (.tick 256) = none ∧ assemble (.rept 1 .nop) = some [0x0000] := by decide

/-- For the range clauses of AssemblerForms: the last operand inside and the first outside, from R84 and R85. -/
theorem test_witness_AssemblerForms_ranges :
    assemble (.wr 15 255) = some [0x3FFF] ∧ assemble (.wr 16 0) = none ∧ assemble (.wr 0 256) = none ∧
    assemble (.rd 15) = some [0x4F00] ∧ assemble (.rd 16) = none ∧
    assemble (.word 0xFFFF) = some [0xFFFF] ∧ assemble (.word 0x10000) = none ∧
    assemble (.sampleRaw (-512)) = some [0x1000] ∧ assemble (.sampleRaw 511) = some [0x13FF] ∧
    assemble (.sampleRaw (-513)) = none ∧ assemble (.sampleRaw 512) = none ∧
    assemble (.rept 0 .nop) = none ∧ assemble (.rept 2 (.tick 256)) = none := by decide

/-- For DisassembledAssembles: a word of R80's rows, an ILLEGAL_READ word and an ILLEGAL word. -/
theorem test_witness_DisassembledAssembles :
    disassembleText 0x1258 = "SAMPLE 600" ∧ disassembleText 0x4400 = "RD_STATUS" ∧
    (∃ r ∈ opcodeMap, r.covers 0x1258 = true) ∧
    (∀ r ∈ opcodeMap, r.covers 0x4A00 = false) ∧ disassembleText 0x4A00 = "ILLEGAL_READ .word 18944" ∧
    (∀ r ∈ opcodeMap, r.covers 0x5000 = false) ∧ disassembleText 0x5000 = "ILLEGAL .word 20480" := by decide

theorem test_witness_StepRunsDecodedInstruction :
    (State.reset.feeding [0x3205]).inputs = [PinsIn.word 0x3205] ∧ (PinsIn.word 0x3205).rst = false ∧
    (PinsIn.word 0x3205).opValid = true ∧ decode (PinsIn.word 0x3205).opWord = .op (.wrGain 5) := by decide

theorem test_witness_StepIllegalWords :
    (State.reset.feeding [0x5000]).inputs = [PinsIn.word 0x5000] ∧
    decode (PinsIn.word 0x5000).opWord = .illegal .reservedClass ∧
    (State.reset.feeding [0x4A00]).inputs = [PinsIn.word 0x4A00] ∧
    decode (PinsIn.word 0x4A00).opWord = .illegalRead .reservedAddress := by decide

theorem test_witness_StepIdleCycle :
    State.reset.inputs = [] ∧ ({ State.reset with inputs := [PinsIn.idle] } : State).inputs = [PinsIn.idle] ∧
    PinsIn.idle.rst = false ∧ PinsIn.idle.opValid = false := by decide

theorem test_witness_StepReset :
    (PinsIn.reset true).rst = true ∧ (PinsIn.reset false).rst = true ∧ halted.fatal = true ∧
    (after (step { halted with inputs := [PinsIn.reset false] })).fatal = false := by decide

/-- The step whose answer the test before looks into. -/
theorem test_witness_StepReset_step :
    step { halted with inputs := [PinsIn.reset false] } =
      .next (after (step { halted with inputs := [PinsIn.reset false] })) := rfl

/-- Two cycles: a SAMPLE and a TICK. -/
def twoEvents (st : Strategy) : State := (transmitting st).feeding [0x1258, 0x203C]

theorem test_witness_StrapSampledAtResetOnly :
    (twoEvents .compareMatch).noReset = true ∧
      core.run 2 (twoEvents .compareMatch) = .next (after (core.run 2 (twoEvents .compareMatch))) := ⟨by decide, rfl⟩

theorem test_witness_StepKeepsConsistent :
    (receiving .pulseWidth).Consistent ∧
      step (receiving .pulseWidth) = .next (after (step (receiving .pulseWidth))) := ⟨receiving_consistent _, rfl⟩

theorem test_witness_ReachableConsistent :
    core.run 2 (State.afterReset .default .pulseWidth [PinsIn.word 0x3100, PinsIn.word 0x3001]) =
      .next (after (core.run 2 (State.afterReset .default .pulseWidth [PinsIn.word 0x3100, PinsIn.word 0x3001]))) := rfl

theorem test_witness_StepKeepsConfigured :
    (receiving .pulseWidth).Configured ∧
      step (receiving .pulseWidth) = .next (after (step (receiving .pulseWidth))) := ⟨⟨by decide, by decide⟩, rfl⟩

theorem test_witness_HaltedAnswersReadsOnly :
    (halted.feeding [0x4400]).Consistent ∧ (halted.feeding [0x4400]).fatal = true ∧
    (halted.feeding [0x4400]).inputs = [PinsIn.word 0x4400] ∧ (PinsIn.word 0x4400).opWord.toNat / 4096 = 4 ∧
    (halted.feeding [0x3003]).inputs = [PinsIn.word 0x3003] ∧ (PinsIn.word 0x3003).opWord.toNat / 4096 ≠ 4 ∧
    (halted.feeding [0x3003]).pins.rst = false :=
  ⟨by constructor <;> decide, by decide⟩

theorem test_witness_HaltedForever :
    (halted.feeding [0x4400, 0x3003]).fatal = true ∧ (halted.feeding [0x4400, 0x3003]).noReset = true ∧
      core.run 2 (halted.feeding [0x4400, 0x3003]) = .next (after (core.run 2 (halted.feeding [0x4400, 0x3003]))) :=
  ⟨by decide, by decide, rfl⟩

/-- For SampleAccepted, CarrierDecision and RunningSumAgrees; with THRESH at both ends. -/
theorem test_witness_SampleAccepted :
    secondSample.fatal = false ∧ secondSample.adcEn = true ∧ (receiving .pulseWidth).thresh = 0 ∧
    ({ secondSample with thresh := 255 } : State).thresh = 255 := by decide

theorem test_witness_RunningSumAgrees :
    exec (.sample 600) secondSample = .next (after (exec (.sample 600) secondSample)) := rfl

theorem test_witness_SampleGate :
    halted.fatal = true ∧ (transmitting .pulseWidth).adcEn = false ∧ (transmitting .pulseWidth).fatal = false := by decide

theorem test_witness_AttenuationCorners : (2 : Nat) ≤ 2 ∧ (9 : Nat) ≤ 9 ∧ (-512 : Int) < 0 ∧ (0 : Int) ≤ 511 := by decide

/-- For ConditionedSampleWraps: a difference in range, one below it and one above it. -/
theorem test_witness_ConditionedSampleWraps :
    dcDifference secondSample.ring 1 = -6 ∧ dcDifference wrapping.ring 31 = -247 ∧
      dcDifference ((Vector.replicate 32 0x80).set 31 127) 31 = 248 := by decide

/-- For WindowSlides, CursorCountsAccepted: two cycles of which the first is accepted. -/
theorem test_witness_WindowSlides :
    (twoEvents .compareMatch).noReset = true ∧ (twoEvents .compareMatch).accepted 2 = [88] ∧
      core.run 2 (twoEvents .compareMatch) = .next (after (core.run 2 (twoEvents .compareMatch))) :=
  ⟨by decide, by decide, rfl⟩

/-- For RingHoldsLastSamples and StartUpTransient with n = 1: INIT 0 and SAMPLE 512 from reset. -/
def startUp : State := State.afterReset .default .pulseWidth [PinsIn.word 0x3100, PinsIn.word 0x1200]

theorem test_witness_RingHoldsLastSamples :
    startUp.noReset = true ∧ startUp.accepted 2 = List.replicate 1 0 ∧
      core.run 2 startUp = .next (after (core.run 2 startUp)) := ⟨by decide, by decide, rfl⟩

theorem test_witness_StartUpTransient :
    (after (core.run 2 startUp)).fatal = false ∧ (after (core.run 2 startUp)).adcEn = true ∧
      (after (core.run 2 startUp)).thresh.toNat ≤ 128 := by decide

/-- For ConstantInputSettles and StartUpTransient with n = 32: 32 cycles SAMPLE 512. No shorter run meets "at least N
samples" (R113). -/
def fullWindow : State := (receiving .pulseWidth).feeding (List.replicate 32 0x1200)

theorem test_witness_ConstantInputSettles :
    fullWindow.noReset = true ∧ fullWindow.accepted 32 = List.replicate 32 0 ∧
      (after (core.run 32 fullWindow)).fatal = false ∧ (after (core.run 32 fullWindow)).adcEn = true := by
  decide +kernel

theorem test_witness_ConstantInputSettles_run :
    core.run 32 fullWindow = .next (after (core.run 32 fullWindow)) := next_after (by decide +kernel)

theorem test_witness_TickWritesDuty :
    (transmitting .pulseWidth).fatal = false ∧ (transmitting .pulseWidth).outEn = true ∧
      (transmitting .pulseWidth).strat = .pulseWidth := by decide

theorem test_witness_TickWritesDacBits :
    (transmitting .compareMatch).fatal = false ∧ (transmitting .compareMatch).outEn = true ∧
      (transmitting .compareMatch).strat = .compareMatch := by decide

theorem test_witness_TickGate :
    halted.fatal = true ∧ (receiving .pulseWidth).outEn = false ∧ (receiving .pulseWidth).Consistent :=
  ⟨by decide, by decide, receiving_consistent _⟩

/-- For StrategiesExclusive, ErrorFlagSetters, ErrorFlagsAccumulate, EventOutputs, CaptureWriters, RegisterWriters and
ChannelDecidesNothing: a cycle that is no reset cycle, and its step. -/
theorem test_witness_StrategiesExclusive :
    (twoEvents .pulseWidth).pins.rst = false ∧ (twoEvents .pulseWidth).strat = .pulseWidth ∧
    (twoEvents .compareMatch).pins.rst = false ∧ (twoEvents .compareMatch).strat = .compareMatch ∧
    step (twoEvents .compareMatch) = .next (after (step (twoEvents .compareMatch))) ∧
    (State.afterReset .default .compareMatch [PinsIn.word 0x3100]).noReset = true :=
  ⟨by decide, by decide, by decide, by decide, rfl, by decide⟩

theorem test_witness_SampleTickCommute :
    exec (.sample 600) (transmitting .compareMatch) = .next (after (exec (.sample 600) (transmitting .compareMatch))) ∧
    exec (.tick 0x3C) (transmitting .compareMatch) = .next (after (exec (.tick 0x3C) (transmitting .compareMatch))) :=
  ⟨rfl, rfl⟩

theorem test_witness_EventMergeOrderIrrelevant :
    decode 0x1258 = .op (.sample 600) ∧ decode 0x203C = .op (.tick 0x3C) ∧
    Interleaving [0x1258#16] [0x203C#16] [0x1258#16, 0x203C#16] ∧
    Interleaving [0x1258#16] [0x203C#16] [0x203C#16, 0x1258#16] ∧
    core.run 2 (State.reset.feeding [0x1258, 0x203C]) =
      .next (after (core.run 2 (State.reset.feeding [0x1258, 0x203C]))) :=
  ⟨by decide, by decide, .left (.right .nil), .right (.left .nil), rfl⟩

theorem test_witness_StartTxAccepted :
    (receiving .compareMatch).fatal = false ∧ (receiving .compareMatch).inited = true ∧
      (receiving .compareMatch).mode = .receiving := by decide

theorem test_witness_StopTxAccepted :
    (transmitting .pulseWidth).fatal = false ∧ (transmitting .pulseWidth).inited = true ∧
      (transmitting .pulseWidth).mode = .transmitting := by decide

theorem test_witness_CommandMisuse :
    State.reset.fatal = false ∧ State.reset.inited = false ∧ (transmitting .pulseWidth).mode = .transmitting ∧
      (receiving .pulseWidth).mode = .receiving := by decide

theorem test_witness_PttStateTable :
    (receiving .pulseWidth).Consistent ∧ (receiving .pulseWidth).fatal = false ∧ State.reset.inited = false :=
  ⟨receiving_consistent _, by decide, by decide⟩

theorem test_witness_TransmitReceiveExclusion :
    (twoEvents .pulseWidth).Consistent ∧ (twoEvents .pulseWidth).mode = .transmitting ∧
    (twoEvents .pulseWidth).noReset = true ∧ (twoEvents .pulseWidth).neverPresents 0x3002 = true ∧
    core.run 2 (twoEvents .pulseWidth) = .next (after (core.run 2 (twoEvents .pulseWidth))) ∧
    (receiving .compareMatch).Consistent ∧ (receiving .compareMatch).inited = true ∧
    (receiving .compareMatch).mode = .receiving :=
  ⟨by constructor <;> decide, by decide, by decide, by decide, rfl, receiving_consistent _, by decide, by decide⟩

theorem test_witness_NopChangesNothing : (0x0FFF#16) ≠ 0 ∧ (0x0FFF#16).toNat < 4096 ∧ (0x0001#16) ≠ 0 := by decide

theorem test_witness_InitOutcomes :
    State.reset.fatal = false ∧ State.reset.inited = false ∧ State.reset.params.Legal ∧
    (7#8).toNat < State.reset.params.nchan ∧ State.reset.params.nchan ≤ (8#8).toNat ∧
    (receiving .pulseWidth).inited = true := by decide

theorem test_witness_BeforeInit :
    State.reset.Consistent ∧ State.reset.fatal = false ∧ State.reset.inited = false :=
  ⟨by constructor <;> decide, by decide, by decide⟩

/-- For ClrErrClears, WriteGainThresh, WritePort and ReadAfterWrite. -/
theorem test_witness_ClrErrClears : (receiving .pulseWidth).fatal = false ∧ halted.fatal = true := by decide

/-- For ErrorFlagSetters: a cycle that raises each flag. -/
theorem test_witness_ErrorFlagSetters :
    (after (step (State.reset.feeding [0x3001]))).protoErr = true ∧ (after (step (State.reset.feeding [0xFFFF]))).illErr = true ∧
    (after (step (State.reset.feeding [0x3108]))).fatal = true ∧ (State.reset.feeding [0x3108]).pins.rst = false := by decide

/-- For ErrorFlagsAccumulate: a set flag and a word that is not CLR_ERR. -/
theorem test_witness_ErrorFlagsAccumulate :
    ({ State.reset with protoErr := true } : State).protoErr = true ∧ decode 0x3205 ≠ .op .clrErr := by decide

/-- For EventOutputs, CaptureWriters and ChannelDecidesNothing: an accepted sample. -/
theorem test_witness_CaptureWriters :
    (after (step (twoEvents .compareMatch))).pos ≠ (twoEvents .compareMatch).pos ∧
      (after (step (twoEvents .compareMatch))).condValid = true ∧
      (after (step (State.reset.feeding [0x4400]))).rvalid = true := by decide

/-- For ChannelDecidesNothing: a read of INITREG shows the channel, another read does not, a reset ends the difference. -/
theorem test_witness_ChannelDecidesNothing :
    (after (step ({ receiving .pulseWidth with chan := 5 }.feeding [0x4100]))).rdata = 0x85 ∧
    (after (step ({ receiving .pulseWidth with chan := 6 }.feeding [0x4100]))).rdata = 0x86 ∧
    (after (step ({ receiving .pulseWidth with chan := 5 }.feeding [0x4400]))).rdata =
      (after (step ({ receiving .pulseWidth with chan := 6 }.feeding [0x4400]))).rdata ∧
    (after (step { receiving .pulseWidth with chan := 5, inputs := [PinsIn.reset true] })).chan =
      (after (step { receiving .pulseWidth with chan := 6, inputs := [PinsIn.reset true] })).chan := by decide

/-- For RegisterWriters: one change of each register it names. -/
theorem test_witness_RegisterWriters :
    (after (step (State.reset.feeding [0x3205]))).gain ≠ State.reset.gain ∧
    (after (step (State.reset.feeding [0x3305]))).thresh ≠ State.reset.thresh ∧
    (after (step ((receiving .pulseWidth).feeding [0x3001]))).mode ≠ (receiving .pulseWidth).mode ∧
    (after (step ((receiving .pulseWidth).feeding [0x3001]))).adcEn ≠ (receiving .pulseWidth).adcEn ∧
    (after (step (State.reset.feeding [0x3103]))).chan ≠ State.reset.chan ∧
    (after (step ((transmitting .pulseWidth).feeding [0x203C]))).duty ≠ (transmitting .pulseWidth).duty ∧
    (after (step ((transmitting .compareMatch).feeding [0x203C]))).port ≠ (transmitting .compareMatch).port ∧
    (after (step (State.reset.feeding [0x380F]))).port ≠ State.reset.port := by decide

end Sys2Proof.Tests
end

section
/-!
PROOFS. The bound channel and the parameters (00_scope.md R8; 43_host_interface.md R182): which operation writes CHAN, and
that every step keeps the parameters legal and CHAN below NCHAN.
-/

namespace Sys2Proof.Machine

/-- `t` has the parameters and the CHAN of `s`. -/
def State.SameBinding (s t : State) : Prop := t.params = s.params ∧ t.chan = s.chan

theorem State.SameBinding.refl (s : State) : s.SameBinding s := ⟨rfl, rfl⟩

theorem State.SameBinding.setFlag (s : State) (c : ErrorFlag) : s.SameBinding (s.setFlag c) :=
  ⟨s.setFlag_params c, s.setFlag_chan c⟩

theorem State.SameBinding.acceptTick (s : State) (b : BitVec 8) : s.SameBinding (s.acceptTick b) := by
  unfold State.acceptTick
  cases s.strat <;> exact ⟨rfl, rfl⟩

/-- The halted gate (R214) passes an effect that leaves the binding alone. -/
theorem State.SameBinding.unlessHalted {s after : State} (h : s.SameBinding after) :
    s.SameBinding (s.unlessHalted after) :=
  unlessHalted_elim (.refl s) fun _ => h

/-- A choice between two effects that leave the binding alone. -/
theorem State.SameBinding.ite {s t u : State} {c : Prop} [Decidable c] (ht : s.SameBinding t)
    (hu : s.SameBinding u) : s.SameBinding (if c then t else u) := by
  split <;> assumption

/-- INIT binds a channel below NCHAN or leaves the binding alone (R182, R183, R214). -/
theorem exec_init_binding {c : BitVec 8} {s t : State} (h : exec (.init c) s = .next t) :
    s.SameBinding t ∨ (channelSupported c s.params = true ∧ t = s.bindChannel (channelField c)) := by
  rw [exec_init] at h
  cases h
  cases hf : s.fatal with
  | true => rw [State.unlessHalted_of_fatal hf]; exact .inl (.refl s)
  | false =>
    rw [State.unlessHalted_of_running hf]
    split_ifs with _ hc
    · exact .inl (.setFlag s _)
    · exact .inr ⟨hc, rfl⟩
    · exact .inl (.setFlag s _)

/-- Only an INIT whose channel is below NCHAN writes CHAN, and no operation writes the parameters (R8, R182). -/
theorem exec_binding {i : Instr} {s t : State} (h : exec i s = .next t) :
    s.SameBinding t ∨
      ∃ c, i = .init c ∧ channelSupported c s.params = true ∧ t = s.bindChannel (channelField c) := by
  cases i with
  | init c => exact (exec_init_binding h).imp_right fun hb => ⟨c, rfl, hb⟩
  | sample adc => cases h; exact .inl (.unlessHalted (.ite ⟨rfl, rfl⟩ (.refl s)))
  | tick b => cases h; exact .inl (.unlessHalted (.ite (.acceptTick s b) (.refl s)))
  | startTx => cases h; exact .inl (.unlessHalted (.ite ⟨rfl, rfl⟩ (.setFlag s _)))
  | stopTx => cases h; exact .inl (.unlessHalted (.ite ⟨rfl, rfl⟩ (.setFlag s _)))
  | clrErr | wrGain | wrThresh | wrPort => cases h; exact .inl (.unlessHalted ⟨rfl, rfl⟩)
  | nop | rdCmd | rdInit | rdGain | rdThresh | rdStatus | rdPtp | rdConfig | rdDuty | rdPort | rdCond =>
    cases h; exact .inl ⟨rfl, rfl⟩

theorem State.Configured.of_sameBinding {s t : State} (hs : s.Configured) (h : s.SameBinding t) :
    t.Configured := by
  obtain ⟨hp, hc⟩ := h
  exact ⟨hp ▸ hs.paramsLegal, by rw [hp, hc]; exact hs.chanSupported⟩

/-- Truncating INIT's operand to `chan[6:0]` does not raise it (R75, R182). -/
theorem channelField_toNat_le (c : BitVec 8) : (channelField c).toNat ≤ c.toNat := by
  simpa [channelField] using Nat.mod_le c.toNat 128

/-- INIT's comparison before truncation (R75) is enough for the channel it binds. -/
theorem State.Configured.bindChannel {s : State} (hs : s.Configured) {c : BitVec 8}
    (hc : channelSupported c s.params = true) : (s.bindChannel (channelField c)).Configured :=
  ⟨hs.paramsLegal, (channelField_toNat_le c).trans_lt (of_decide_eq_true hc)⟩

/-- A reset edge clears CHAN to 0, which every legal NCHAN supports (R8, R240). -/
theorem State.Configured.applyReset {s : State} (hs : s.Configured) (b : Bool) : (s.applyReset b).Configured :=
  ⟨hs.paramsLegal, hs.paramsLegal.1⟩

theorem exec_keeps_configured {i : Instr} {s t : State} (hs : s.Configured) (h : exec i s = .next t) :
    t.Configured := by
  obtain hsame | ⟨c, -, hc, rfl⟩ := exec_binding h
  · exact hs.of_sameBinding hsame
  · exact hs.bindChannel hc

/-- Settles O17, by the kinds of cycle: a reset clears CHAN, an operation is `exec_keeps_configured`, and an idle cycle
or an illegal word leaves the binding alone. -/
theorem stepKeepsConfigured : Obligations.StepKeepsConfigured := by
  intro s t hs h
  have hb : s.beginCycle.Configured := hs.of_sameBinding ⟨rfl, rfl⟩
  have hill : s.beginCycle.SameBinding (s.beginCycle.unlessHalted (s.beginCycle.setFlag .illErr)) :=
    .unlessHalted (.setFlag _ _)
  obtain ⟨-, rfl⟩ | ⟨-, -, rfl⟩ | ⟨-, -, ⟨i, -, hi⟩ | ⟨_, -, rfl⟩ | ⟨_, -, rfl⟩⟩ := step_cases h
  · exact hb.applyReset _
  · exact hb
  · exact exec_keeps_configured hb hi
  · exact hb.of_sameBinding hill
  · exact (hb.of_sameBinding hill).of_sameBinding ⟨rfl, rfl⟩

end Sys2Proof.Machine
end

section
/-!
PROOFS. Which words are reads (30_encoding.md R74, R79): the words of OPC 0x4, legal or not.
-/

namespace Sys2Proof

/-- The address that a legal read RD_CMD to RD_COND answers (R76, R190 to R199). -/
def Instr.readAddr : Instr → Option RegAddr
  | .rdCmd => some 0x0
  | .rdInit => some 0x1
  | .rdGain => some 0x2
  | .rdThresh => some 0x3
  | .rdStatus => some 0x4
  | .rdPtp => some 0x5
  | .rdConfig => some 0x6
  | .rdDuty => some 0x7
  | .rdPort => some 0x8
  | .rdCond => some 0x9
  | _ => none

/-- The decoded word is answered on `rdata`: a legal read (R189) or an ILLEGAL_READ (R201). -/
def Decoded.isRead : Decoded → Bool
  | .op i => i.readAddr.isSome
  | .illegal _ => false
  | .illegalRead _ => true

theorem decodeRead_isRead (a : RegAddr) (d : Byte) : (decodeRead a d).isRead = true := by
  unfold decodeRead
  split
  · rfl
  · split <;> rfl

theorem decodeCommand_isRead (d : Byte) : (decodeCommand d).isRead = false := by
  unfold decodeCommand
  split <;> rfl

theorem decodeWrite_isRead (a : RegAddr) (d : Byte) : (decodeWrite a d).isRead = false := by
  unfold decodeWrite
  split
  · exact decodeCommand_isRead d
  all_goals rfl

/-- OPC is the word's leading hexadecimal digit (R70). -/
theorem opcField_toNat (w : OpWord) : (opcField w).toNat = w.toNat / 4096 := by
  have hw := w.isLt
  simp only [opcField, BitVec.extractLsb'_toNat, Nat.shiftRight_eq_div_pow]
  omega

/-- The words answered on `rdata` are those of OPC 0x4 (R74, R79). -/
theorem decode_isRead_iff (w : OpWord) : (decode w).isRead = true ↔ w.toNat / 4096 = 4 := by
  rw [← opcField_toNat]
  unfold decode
  split
  case h_4 h => simp [h, decodeWrite_isRead]
  case h_5 h => simp [h, decodeRead_isRead]
  case h_6 h => simpa [Decoded.isRead] using fun h' => h (BitVec.eq_of_toNat_eq h')
  all_goals
    rename_i h
    split <;> simp [h, Decoded.isRead, Instr.readAddr]

end Sys2Proof
end

section
/-!
PROOFS. What one word can do to the state, said once (43_host_interface.md R202): every effect of an operation or an
illegal word, with the conditions under which the block has it.
-/

namespace Sys2Proof.Machine

/-- `Effect s d t`: the word that decodes to `d` takes the state `s` to `t`. One constructor for each way in which a word
can write the state or leave it, with the condition under which it does. -/
inductive Effect (s : State) : Decoded → State → Prop
  /-- A word other than a read while halted (R214). -/
  | halted {d : Decoded} (hhalt : s.fatal = true) (hread : d.isRead = false) : Effect s d s
  /-- NOP (R180). -/
  | nop : Effect s (.op .nop) s
  /-- A legal read, also while halted (R189, R214). -/
  | answered {i : Instr} {a : RegAddr} (haddr : i.readAddr = some a) : Effect s (.op i) (s.answerRead a)
  /-- An ILLEGAL_READ while halted (R201). -/
  | haltedIllegalRead (why : IllegalRead) (hhalt : s.fatal = true) : Effect s (.illegalRead why) (s.emitRd 0x00)
  /-- An ILLEGAL_READ while running (R201). -/
  | illegalRead (why : IllegalRead) (hrun : s.fatal = false) :
      Effect s (.illegalRead why) ((s.setFlag .illErr).emitRd 0x00)
  /-- An ILLEGAL word (R200). -/
  | illegal (why : IllegalWord) (hrun : s.fatal = false) : Effect s (.illegal why) (s.setFlag .illErr)
  /-- An accepted SAMPLE (R111). -/
  | sampled (adc : BitVec 10) (hrun : s.fatal = false) (hadc : s.adcEn = true) :
      Effect s (.op (.sample adc)) (s.acceptSample adc)
  /-- A dropped SAMPLE (R100). -/
  | sampleDropped (adc : BitVec 10) (hrun : s.fatal = false) (hadc : s.adcEn = false) : Effect s (.op (.sample adc)) s
  /-- A TICK under the pulse-width strategy (R141). -/
  | wroteDuty (b : BitVec 8) (hrun : s.fatal = false) (hout : s.outEn = true) (hstrat : s.strat = .pulseWidth) :
      Effect s (.op (.tick b)) { s with duty := b }
  /-- A TICK under the compare-match strategy (R142). -/
  | wroteDacBits (b : BitVec 8) (hrun : s.fatal = false) (hout : s.outEn = true) (hstrat : s.strat = .compareMatch) :
      Effect s (.op (.tick b)) { s with port := portFromTick s.params.dacMask s.port b }
  /-- A dropped TICK (R140). -/
  | tickDropped (b : BitVec 8) (hrun : s.fatal = false) (hout : s.outEn = false) : Effect s (.op (.tick b)) s
  /-- An accepted START_TX (R160). -/
  | keyed (hrun : s.fatal = false) (hinit : s.inited = true) (hmode : s.mode = .receiving) :
      Effect s (.op .startTx) s.keyTransmitter
  /-- START_TX out of order (R161). -/
  | startMisused (hrun : s.fatal = false) (hmis : s.inited = false ∨ s.mode = .transmitting) :
      Effect s (.op .startTx) (s.setFlag .protoErr)
  /-- An accepted STOP_TX (R162). -/
  | unkeyed (hrun : s.fatal = false) (hinit : s.inited = true) (hmode : s.mode = .transmitting) :
      Effect s (.op .stopTx) s.unkeyTransmitter
  /-- STOP_TX out of order (R163). -/
  | stopMisused (hrun : s.fatal = false) (hmis : s.inited = false ∨ s.mode = .receiving) :
      Effect s (.op .stopTx) (s.setFlag .protoErr)
  /-- CLR_ERR (R184). -/
  | cleared (hrun : s.fatal = false) : Effect s (.op .clrErr) s.clearErrors
  /-- The first INIT, of a supported channel (R182). -/
  | bound (c : BitVec 8) (hrun : s.fatal = false) (hinit : s.inited = false)
      (hchan : channelSupported c s.params = true) : Effect s (.op (.init c)) (s.bindChannel (channelField c))
  /-- The first INIT, of an unsupported channel (R182). -/
  | fatalInit (c : BitVec 8) (hrun : s.fatal = false) (hinit : s.inited = false)
      (hchan : channelSupported c s.params = false) : Effect s (.op (.init c)) (s.setFlag .fatal)
  /-- A later INIT (R183). -/
  | initMisused (c : BitVec 8) (hrun : s.fatal = false) (hinit : s.inited = true) :
      Effect s (.op (.init c)) (s.setFlag .protoErr)
  /-- WR_GAIN (R186). -/
  | wroteGain (v : BitVec 8) (hrun : s.fatal = false) : Effect s (.op (.wrGain v)) { s with gain := v }
  /-- WR_THRESH (R187). -/
  | wroteThresh (v : BitVec 8) (hrun : s.fatal = false) : Effect s (.op (.wrThresh v)) { s with thresh := v }
  /-- WR_PORT (R188). -/
  | wrotePort (v : BitVec 8) (hrun : s.fatal = false) :
      Effect s (.op (.wrPort v)) { s with port := portFromHost s.params.dacMask s.port v }

variable {s t : State} {d : Decoded}

/-- The halted gate (R214): a word that is no read has the effect it has while running, or none. -/
theorem Effect.unlessHalted {after : State} (hread : d.isRead = false)
    (h : s.fatal = false → Effect s d after) : Effect s d (s.unlessHalted after) := by
  cases hf : s.fatal with
  | true => rw [State.unlessHalted_of_fatal hf]; exact .halted hf hread
  | false => rw [State.unlessHalted_of_running hf]; exact h hf

/-- An ILLEGAL_READ word is answered whether or not the block is halted (R201). -/
theorem Effect.illegalRead_unlessHalted (why : IllegalRead) :
    Effect s (.illegalRead why) ((s.unlessHalted (s.setFlag .illErr)).emitRd 0x00) := by
  cases hf : s.fatal with
  | true => rw [State.unlessHalted_of_fatal hf]; exact .haltedIllegalRead why hf
  | false => rw [State.unlessHalted_of_running hf]; exact .illegalRead why hf

theorem Effect.sample (adc : BitVec 10) (hrun : s.fatal = false) :
    Effect s (.op (.sample adc)) (if s.adcEn then s.acceptSample adc else s) := by
  split_ifs with ha
  · exact .sampled adc hrun ha
  · exact .sampleDropped adc hrun (by simpa using ha)

/-- An accepted TICK under the pulse-width strategy writes DUTY (R141). -/
theorem State.acceptTick_of_pulseWidth (b : BitVec 8) (h : s.strat = .pulseWidth) :
    s.acceptTick b = { s with duty := b } := by
  simp [State.acceptTick, h]

/-- An accepted TICK under the compare-match strategy writes PORT under the DAC_MASK (R142). -/
theorem State.acceptTick_of_compareMatch (b : BitVec 8) (h : s.strat = .compareMatch) :
    s.acceptTick b = { s with port := portFromTick s.params.dacMask s.port b } := by
  simp [State.acceptTick, h]

theorem Effect.acceptTick (b : BitVec 8) (hrun : s.fatal = false) (hout : s.outEn = true) :
    Effect s (.op (.tick b)) (s.acceptTick b) := by
  cases hst : s.strat with
  | pulseWidth => rw [State.acceptTick_of_pulseWidth b hst]; exact .wroteDuty b hrun hout hst
  | compareMatch => rw [State.acceptTick_of_compareMatch b hst]; exact .wroteDacBits b hrun hout hst

theorem Effect.tick (b : BitVec 8) (hrun : s.fatal = false) :
    Effect s (.op (.tick b)) (if s.outEn then s.acceptTick b else s) := by
  split_ifs with ho
  · exact .acceptTick b hrun ho
  · exact .tickDropped b hrun (by simpa using ho)

theorem Mode.ne_receiving_iff {m : Mode} : m ≠ .receiving ↔ m = .transmitting := by
  cases m <;> decide

theorem Mode.ne_transmitting_iff {m : Mode} : m ≠ .transmitting ↔ m = .receiving := by
  cases m <;> decide

theorem Effect.startTx (hrun : s.fatal = false) : Effect s (.op .startTx)
    (if s.inited ∧ s.mode = .receiving then s.keyTransmitter else s.setFlag .protoErr) := by
  split_ifs with hc
  · exact .keyed hrun hc.1 hc.2
  · rw [not_and_or, ← ne_eq s.mode, Mode.ne_receiving_iff, Bool.not_eq_true] at hc
    exact .startMisused hrun hc

theorem Effect.stopTx (hrun : s.fatal = false) : Effect s (.op .stopTx)
    (if s.inited ∧ s.mode = .transmitting then s.unkeyTransmitter else s.setFlag .protoErr) := by
  split_ifs with hc
  · exact .unkeyed hrun hc.1 hc.2
  · rw [not_and_or, ← ne_eq s.mode, Mode.ne_transmitting_iff, Bool.not_eq_true] at hc
    exact .stopMisused hrun hc

theorem Effect.init (c : BitVec 8) (hrun : s.fatal = false) : Effect s (.op (.init c))
    (if s.inited then s.setFlag .protoErr
     else if channelSupported c s.params then s.bindChannel (channelField c) else s.setFlag .fatal) := by
  split_ifs with hi hc
  · exact .initMisused c hrun hi
  · exact .bound c hrun (by simpa using hi) hc
  · exact .fatalInit c hrun (by simpa using hi) (by simpa using hc)

/-- Every operation has one of the effects. -/
theorem exec_effect {i : Instr} (h : exec i s = .next t) : Effect s (.op i) t := by
  cases i with
  | nop => cases h; exact .nop
  | sample adc => cases h; exact .unlessHalted rfl (.sample adc)
  | tick b => cases h; exact .unlessHalted rfl (.tick b)
  | startTx => cases h; exact .unlessHalted rfl .startTx
  | stopTx => cases h; exact .unlessHalted rfl .stopTx
  | clrErr => cases h; exact .unlessHalted rfl .cleared
  | init c => cases h; exact .unlessHalted rfl (.init c)
  | wrGain v => cases h; exact .unlessHalted rfl (.wroteGain v)
  | wrThresh v => cases h; exact .unlessHalted rfl (.wroteThresh v)
  | wrPort v => cases h; exact .unlessHalted rfl (.wrotePort v)
  | rdCmd | rdInit | rdGain | rdThresh | rdStatus | rdPtp | rdConfig | rdDuty | rdPort | rdCond =>
    cases h; exact .answered rfl

/-- A cycle without reset is an idle one, which only ends the event outputs (R45, R202), or its word has one of the
effects. -/
theorem step_effect (hr : s.pins.rst = false) (h : step s = .next t) :
    (s.pins.opValid = false ∧ t = s.beginCycle) ∨
    (s.pins.opValid = true ∧ Effect s.beginCycle (decode s.pins.opWord) t) := by
  obtain ⟨hr', -⟩ | ⟨-, hidle⟩ | ⟨-, hv, ⟨i, hd, hi⟩ | ⟨why, hd, rfl⟩ | ⟨why, hd, rfl⟩⟩ := step_cases h
  · simp [hr] at hr'
  · exact .inl hidle
  · exact .inr ⟨hv, hd ▸ exec_effect hi⟩
  · exact .inr ⟨hv, hd ▸ .unlessHalted rfl (.illegal why)⟩
  · exact .inr ⟨hv, hd ▸ .illegalRead_unlessHalted why⟩

end Sys2Proof.Machine
end

section
/-!
PROOFS. The consistency of mode, enables, PTT and FATAL (10_state.md R40).
-/

namespace Sys2Proof.Machine

variable {s t : State} {d : Decoded}

theorem State.afterReset_consistent (p : Params) (st : Strategy) (ins : List PinsIn) :
    (State.afterReset p st ins).Consistent where
  pttIsMode := rfl
  outEnIsMode := rfl
  modeInited := nofun
  adcEnIs := rfl
  fatalIdle := nofun
  bothEnabled := nofun

/-- Settles O14: the reset values meet every clause, and the default parameters are legal. -/
theorem resetConsistent : Obligations.ResetConsistent :=
  ⟨State.afterReset_consistent, State.afterReset_consistent _ _ _, by decide, by decide⟩

/-- An uninitialized block is receiving (R40 (c)), so both its enables are low (R40 (b), (d)). -/
theorem State.Consistent.idle_of_not_inited (hs : s.Consistent) (hi : s.inited = false) :
    s.mode = .receiving ∧ s.adcEn = false ∧ s.outEn = false := by
  have hm : s.mode = .receiving := by
    cases hm : s.mode with
    | receiving => rfl
    | transmitting => simpa [hi] using hs.modeInited hm
  exact ⟨hm, by simp [hs.adcEnIs, hi], by simp [hs.outEnIsMode, hm, Mode.bit]⟩

theorem State.Consistent.keyTransmitter (hs : s.Consistent) (hrun : s.fatal = false) (hi : s.inited = true)
    (hm : s.mode = .receiving) : s.keyTransmitter.Consistent where
  pttIsMode := rfl
  outEnIsMode := rfl
  modeInited _ := hi
  adcEnIs := by
    have ha : s.adcEn = true := by simp [hs.adcEnIs, hi, hm]
    cases hst : s.strat <;> simp [State.keyTransmitter_adcEn, hst, ha, hi]
  fatalIdle hf := by simp [hrun] at hf
  bothEnabled ha _ := by
    cases hst : s.strat with
    | pulseWidth => simp [State.keyTransmitter_adcEn, hst] at ha
    | compareMatch => exact hst

theorem State.unkeyTransmitter_consistent (hrun : s.fatal = false) (hi : s.inited = true) :
    s.unkeyTransmitter.Consistent where
  pttIsMode := rfl
  outEnIsMode := rfl
  modeInited := nofun
  adcEnIs := by simp [hi]
  fatalIdle hf := by simp [hrun] at hf
  bothEnabled _ := nofun

theorem State.Consistent.bindChannel (hs : s.Consistent) (hrun : s.fatal = false) (hi : s.inited = false)
    (c : BitVec 7) : (s.bindChannel c).Consistent := by
  obtain ⟨hm, -, ho⟩ := hs.idle_of_not_inited hi
  exact
    { pttIsMode := hs.pttIsMode
      outEnIsMode := hs.outEnIsMode
      modeInited := fun _ => rfl
      adcEnIs := by simp [hm]
      fatalIdle := fun hf => by simp [hrun] at hf
      bothEnabled := fun _ ho' => by simp [ho] at ho' }

theorem State.Consistent.setFatal (hs : s.Consistent) (hi : s.inited = false) :
    (s.setFlag .fatal).Consistent :=
  { hs with fatalIdle := fun _ => ⟨hi, hs.idle_of_not_inited hi⟩ }

/-- R40 reads MODE, PTT, the enables, INITED, STRAT and FATAL only, so an effect on other registers keeps it. -/
theorem Effect.keeps_consistent (h : Effect s d t) (hs : s.Consistent) : t.Consistent := by
  cases h with
  | keyed hrun hi hm => exact hs.keyTransmitter hrun hi hm
  | unkeyed hrun hi => exact State.unkeyTransmitter_consistent hrun hi
  | bound c hrun hi => exact hs.bindChannel hrun hi _
  | fatalInit c _ hi => exact hs.setFatal hi
  | _ => exact { hs with }

/-- Settles O15, by the kinds of cycle: a reset gives the reset state, an idle cycle touches no register of R40, and a
word has one of the effects. -/
theorem stepKeepsConsistent : Obligations.StepKeepsConsistent := by
  intro s t hs h
  have hb : s.beginCycle.Consistent := { hs with }
  cases hr : s.pins.rst with
  | true =>
    rw [step_of_reset hr] at h
    cases h
    exact State.afterReset_consistent _ _ _
  | false =>
    obtain ⟨-, rfl⟩ | ⟨-, he⟩ := step_effect hr h
    · exact hb
    · exact he.keeps_consistent hb

/-- Settles O16: R40 holds at reset and is kept by every step, so it holds along every run. -/
theorem reachableConsistent : Obligations.ReachableConsistent := fun p st ins k t h =>
  run_induction stepKeepsConsistent k _ t (State.afterReset_consistent p st ins) h

end Sys2Proof.Machine
end

section
/-!
PROOFS. Who writes what: the registers outside the capture path (10_state.md R24 to R39), the capture path and the event
outputs (R21 to R30, R45, R46).
-/

namespace Sys2Proof.Machine

variable {s t : State} {d : Decoded}

/-! #### Registers -/

theorem Effect.strat_params (h : Effect s d t) : t.strat = s.strat ∧ t.params = s.params := by
  cases h <;> exact ⟨rfl, rfl⟩

theorem Effect.gain_writer (h : Effect s d t) : t.gain = s.gain ∨ d = .op (.wrGain t.gain) := by
  cases h with
  | wroteGain v => exact .inr rfl
  | _ => exact .inl rfl

theorem Effect.thresh_writer (h : Effect s d t) : t.thresh = s.thresh ∨ d = .op (.wrThresh t.thresh) := by
  cases h with
  | wroteThresh v => exact .inr rfl
  | _ => exact .inl rfl

theorem Effect.mode_writer (h : Effect s d t) :
    (t.mode = s.mode ∧ t.ptt = s.ptt ∧ t.outEn = s.outEn) ∨ d = .op .startTx ∨ d = .op .stopTx := by
  cases h with
  | keyed => exact .inr (.inl rfl)
  | unkeyed => exact .inr (.inr rfl)
  | _ => exact .inl ⟨rfl, rfl, rfl⟩

/-- START_TX clears ADC_EN under the pulse-width strategy only (R160). -/
theorem Effect.adcEn_writer (h : Effect s d t) :
    t.adcEn = s.adcEn ∨ (∃ c, d = .op (.init c)) ∨ d = .op .stopTx ∨
      (d = .op .startTx ∧ s.strat = .pulseWidth) := by
  cases h with
  | keyed =>
    cases hst : s.strat with
    | pulseWidth => exact .inr (.inr (.inr ⟨rfl, rfl⟩))
    | compareMatch => exact .inl (by simp [State.keyTransmitter_adcEn, hst])
  | unkeyed => exact .inr (.inr (.inl rfl))
  | bound c => exact .inr (.inl ⟨c, rfl⟩)
  | _ => exact .inl rfl

theorem Effect.binding_writer (h : Effect s d t) :
    (t.inited = s.inited ∧ t.chan = s.chan) ∨ ∃ c : BitVec 8, d = .op (.init c) ∧ c.toNat < s.params.nchan := by
  cases h with
  | bound c _ _ hc => exact .inr ⟨c, rfl, of_decide_eq_true hc⟩
  | _ => exact .inl ⟨rfl, rfl⟩

theorem Effect.duty_writer (h : Effect s d t) :
    t.duty = s.duty ∨ (d = .op (.tick t.duty) ∧ s.outEn = true ∧ s.strat = .pulseWidth) := by
  cases h with
  | wroteDuty b _ ho hst => exact .inr ⟨rfl, ho, hst⟩
  | _ => exact .inl rfl

/-- TICK's write keeps the bits of PORT outside the mask (R142). -/
theorem portFromTick_and_not (mask port byte : BitVec 8) :
    portFromTick mask port byte &&& ~~~mask = port &&& ~~~mask := by
  ext j hj
  cases hm : mask[j] <;> simp [portFromTick, hm]

/-- The host's write keeps the bits of PORT under the mask (R188). -/
theorem portFromHost_and (mask port v : BitVec 8) : portFromHost mask port v &&& mask = port &&& mask := by
  ext j hj
  cases hm : mask[j] <;> simp [portFromHost, hm]

theorem Effect.dacBits_writer (h : Effect s d t) :
    t.port &&& s.params.dacMask = s.port &&& s.params.dacMask ∨
      ((∃ b, d = .op (.tick b)) ∧ s.outEn = true ∧ s.strat = .compareMatch) := by
  cases h with
  | wroteDacBits b _ ho hst => exact .inr ⟨⟨b, rfl⟩, ho, hst⟩
  | wrotePort v => exact .inl (portFromHost_and _ _ _)
  | _ => exact .inl rfl

theorem Effect.hostBits_writer (h : Effect s d t) :
    t.port &&& ~~~s.params.dacMask = s.port &&& ~~~s.params.dacMask ∨ ∃ v, d = .op (.wrPort v) := by
  cases h with
  | wroteDacBits => exact .inl (portFromTick_and_not _ _ _)
  | wrotePort v => exact .inr ⟨v, rfl⟩
  | _ => exact .inl rfl

/-- Settles O58: an idle cycle changes no register, and of the effects of a word each register's writers are the ones
above. -/
theorem registerWriters : Obligations.RegisterWriters := by
  intro s t hr h
  obtain ⟨-, rfl⟩ | ⟨-, he⟩ := step_effect hr h
  · simp
  · obtain ⟨hstrat, hparams⟩ := he.strat_params
    refine ⟨hstrat, hparams, he.gain_writer.resolve_left, he.thresh_writer.resolve_left, fun hne => ?_,
      he.adcEn_writer.resolve_left, fun hne => ?_, he.duty_writer.resolve_left, he.dacBits_writer.resolve_left,
      he.hostBits_writer.resolve_left⟩
    · exact he.mode_writer.resolve_left fun ⟨hm, hp, ho⟩ => by simp [hm, hp, ho] at hne
    · exact he.binding_writer.resolve_left fun ⟨hi, hc⟩ => by simp [hi, hc] at hne

/-! #### The answer of a read -/

theorem isRead_of_readAddr {i : Instr} {a : RegAddr} (h : i.readAddr = some a) : (Decoded.op i).isRead = true := by
  simp [Decoded.isRead, h]

/-- Exactly the words of OPC 0x4 raise `rvalid` and write `rdata` (R74, R189, R201). -/
theorem Effect.answer (h : Effect s d t) :
    (d.isRead = true ∧ t.rvalid = true) ∨ (d.isRead = false ∧ t.rvalid = s.rvalid ∧ t.rdata = s.rdata) := by
  cases h with
  | answered haddr => exact .inl ⟨isRead_of_readAddr haddr, rfl⟩
  | haltedIllegalRead | illegalRead => exact .inl ⟨rfl, rfl⟩
  | halted _ hread => exact .inr ⟨hread, rfl, rfl⟩
  | _ => exact .inr ⟨rfl, rfl, rfl⟩

/-- The answer of a cycle (R45): its word is a read, or `rvalid` is 0 and `rdata` holds. -/
theorem step_answer (hr : s.pins.rst = false) (h : step s = .next t) :
    (s.pins.opValid = true ∧ (decode s.pins.opWord).isRead = true ∧ t.rvalid = true) ∨
    (¬(s.pins.opValid = true ∧ (decode s.pins.opWord).isRead = true) ∧ t.rvalid = false ∧ t.rdata = s.rdata) := by
  obtain ⟨hv, rfl⟩ | ⟨hv, he⟩ := step_effect hr h
  · exact .inr ⟨by simp [hv], rfl, rfl⟩
  · obtain ⟨hd, ht⟩ | ⟨hd, ht⟩ := he.answer
    · exact .inl ⟨hv, hd, ht⟩
    · exact .inr ⟨by simp [hd], ht⟩

/-! #### The capture path -/

/-- The word is a SAMPLE that the block accepts (R100). -/
def State.TakesSample (s : State) (d : Decoded) : Prop :=
  s.fatal = false ∧ s.adcEn = true ∧ ∃ adc, d = .op (.sample adc)

/-- A word other than SAMPLE is no accepted SAMPLE. -/
theorem not_takesSample_of_ne (h : ∀ adc, d ≠ .op (.sample adc)) : ¬ s.TakesSample d :=
  fun ⟨_, _, adc, hd⟩ => h adc hd

theorem not_takesSample_of_isRead (h : d.isRead = true) : ¬ s.TakesSample d :=
  not_takesSample_of_ne fun adc hd => by subst hd; cases h

/-- `t` has the capture registers and the sample outputs of `s`. -/
structure State.SameCapture (s t : State) : Prop where
  ring : t.ring = s.ring
  pos : t.pos = s.pos
  ptp : t.ptp = s.ptp
  cond : t.cond = s.cond
  carrier : t.carrier = s.carrier
  condValid : t.condValid = s.condValid
  condOut : t.condOut = s.condOut
  carrierEdge : t.carrierEdge = s.carrierEdge

theorem State.SameCapture.refl (s : State) : s.SameCapture s := ⟨rfl, rfl, rfl, rfl, rfl, rfl, rfl, rfl⟩

/-- Only an accepted SAMPLE touches the capture path (R21, R100). -/
theorem Effect.capture (h : Effect s d t) :
    (∃ adc, s.TakesSample d ∧ d = .op (.sample adc) ∧ t = s.acceptSample adc) ∨
    (¬ s.TakesSample d ∧ s.SameCapture t) := by
  cases h with
  | sampled adc hrun ha => exact .inl ⟨adc, ⟨hrun, ha, adc, rfl⟩, rfl, rfl⟩
  | halted hhalt => exact .inr ⟨fun ⟨hrun, _⟩ => by simp [hhalt] at hrun, .refl s⟩
  | sampleDropped adc _ ha => exact .inr ⟨fun ⟨_, ha', _⟩ => by simp [ha] at ha', .refl s⟩
  | answered haddr =>
    exact .inr ⟨not_takesSample_of_isRead (isRead_of_readAddr haddr), ⟨rfl, rfl, rfl, rfl, rfl, rfl, rfl, rfl⟩⟩
  | _ => exact .inr ⟨not_takesSample_of_ne nofun, ⟨rfl, rfl, rfl, rfl, rfl, rfl, rfl, rfl⟩⟩

/-- The next cycle presents a SAMPLE that the block accepts (R100). -/
def State.AcceptsNext (s : State) : Prop :=
  s.pins.rst = false ∧ s.pins.opValid = true ∧ s.TakesSample (decode s.pins.opWord)

theorem nextAccepted_of_sample {adc : AdcCode} (h : s.AcceptsNext) (hd : decode s.pins.opWord = .op (.sample adc)) :
    s.nextAccepted = some (attenuatedByte adc s.gain) := by
  obtain ⟨hr, hv, hrun, ha, -⟩ := h
  simp [State.nextAccepted, hr, hv, hrun, ha, hd]

theorem nextAccepted_eq_none (h : ¬ s.AcceptsNext) : s.nextAccepted = none := by
  unfold State.nextAccepted
  split
  · rfl
  · rename_i hgate
    split
    · rename_i adc hd
      simp only [Bool.or_eq_true, Bool.not_eq_true', not_or, Bool.not_eq_true, Bool.not_eq_false] at hgate
      obtain ⟨⟨⟨hr, hv⟩, hrun⟩, ha⟩ := hgate
      exact absurd ⟨hr, hv, hrun, ha, adc, hd⟩ h
    · rfl

/-- A cycle without reset accepts a SAMPLE and does what R111 says, or leaves the capture path alone. -/
theorem step_capture (hr : s.pins.rst = false) (h : step s = .next t) :
    (∃ adc, s.AcceptsNext ∧ s.nextAccepted = some (attenuatedByte adc s.gain) ∧ t = s.beginCycle.acceptSample adc) ∨
    (¬ s.AcceptsNext ∧ s.nextAccepted = none ∧ s.beginCycle.SameCapture t) := by
  obtain ⟨hv, rfl⟩ | ⟨hv, he⟩ := step_effect hr h
  · have hn : ¬ s.AcceptsNext := fun ⟨_, hv', _⟩ => by simp [hv] at hv'
    exact .inr ⟨hn, nextAccepted_eq_none hn, .refl _⟩
  · obtain ⟨adc, htake, hd, rfl⟩ | ⟨hn, hsame⟩ := he.capture
    · exact .inl ⟨adc, ⟨hr, hv, htake⟩, nextAccepted_of_sample ⟨hr, hv, htake⟩ hd, rfl⟩
    · have hn' : ¬ s.AcceptsNext := fun ⟨_, _, htake⟩ => hn htake
      exact .inr ⟨hn', nextAccepted_eq_none hn', hsame⟩

/-- Settles O57: a cycle that accepts no SAMPLE leaves the capture path alone. -/
theorem captureWriters : Obligations.CaptureWriters := by
  intro s t hr h hne
  obtain ⟨adc, -, hnext, -⟩ | ⟨-, -, hsame⟩ := step_capture hr h
  · simp [hnext]
  · simp [hsame.ring, hsame.pos, hsame.ptp, hsame.cond, hsame.carrier] at hne

/-- The statement's conditions for `cond_valid` (R46) are those of an accepted SAMPLE. -/
theorem acceptsNext_iff (hr : s.pins.rst = false) :
    s.AcceptsNext ↔ s.fatal = false ∧ s.adcEn = true ∧ s.pins.opValid = true ∧
      ∃ adc, decode s.pins.opWord = .op (.sample adc) :=
  ⟨fun ⟨_, hv, hrun, ha, hd⟩ => ⟨hrun, ha, hv, hd⟩, fun ⟨hrun, ha, hv, hd⟩ => ⟨hr, hv, hrun, ha, hd⟩⟩

/-- `carrier_edge` is 1 exactly when the sample changed the flag (R109). -/
theorem carrierTransition_iff (car old : Bool) : carrierTransition car old = true ↔ car ≠ old := by
  cases car <;> cases old <;> decide

/-- Settles O56: the read outputs by `step_answer`, the sample outputs by `step_capture`. -/
theorem eventOutputs : Obligations.EventOutputs := by
  intro s t hr h
  have hread : (t.rvalid = true ↔ s.pins.opValid = true ∧ s.pins.opWord.toNat / 4096 = 4) ∧
      (t.rvalid = false → t.rdata = s.rdata) := by
    rw [← decode_isRead_iff]
    obtain ⟨hv, hd, ht⟩ | ⟨hn, ht, hdata⟩ := step_answer hr h
    · simp [hv, hd, ht]
    · exact ⟨iff_of_false (by simp [ht]) hn, fun _ => hdata⟩
  obtain ⟨hiff, hhold⟩ := hread
  rw [← acceptsNext_iff hr]
  refine ⟨hiff, hhold, ?_⟩
  obtain ⟨adc, hacc, -, rfl⟩ | ⟨hn, -, hsame⟩ := step_capture hr h
  · exact ⟨iff_of_true rfl hacc, fun _ => ⟨rfl, carrierTransition_iff _ _⟩, nofun⟩
  · have hcv : t.condValid = false := hsame.condValid
    exact ⟨iff_of_false (by simp [hcv]) hn, by simp [hcv], fun _ => ⟨hsame.condOut, hsame.carrierEdge⟩⟩

end Sys2Proof.Machine
end

section
/-!
PROOFS. The ring as a window of the accepted samples (10_state.md R22, R23), along runs without reset.
-/

namespace Sys2Proof.Machine

variable {s t : State} {d : Decoded}

/-! #### The inputs of a run -/

theorem Effect.inputs_eq (h : Effect s d t) : t.inputs = s.inputs := by
  cases h <;> rfl

theorem pins_rst_of_noReset (h : s.noReset = true) : s.pins.rst = false := by
  cases hin : s.inputs with
  | nil => rw [State.pins_of_nil hin]; rfl
  | cons p rest =>
    rw [State.pins_of_cons hin]
    simpa using List.all_eq_true.mp h p (by simp [hin])

/-- A step takes one cycle's pins, so no reset comes after it either. -/
theorem noReset_of_step (hn : s.noReset = true) (h : step s = .next t) : t.noReset = true := by
  have hin : t.inputs = s.inputs.tail := by
    obtain ⟨-, rfl⟩ | ⟨-, he⟩ := step_effect (pins_rst_of_noReset hn) h
    · rfl
    · exact he.inputs_eq
  exact List.all_eq_true.mpr fun p hp => List.all_eq_true.mp hn p (List.mem_of_mem_tail (hin ▸ hp))

/-- A relation between the start of a run without reset, the samples it accepts and its end holds when it holds of the
empty run and a first cycle without reset extends it. -/
theorem run_accepted_induction {R : State → List (BitVec 8) → State → Prop} (zero : ∀ s, R s [] s)
    (succ : ∀ s u t as, s.pins.rst = false → step s = .next u → R u as t → R s (s.nextAccepted.toList ++ as) t) :
    ∀ (k : Nat) (s t : State), s.noReset = true → core.run k s = .next t → R s (s.accepted k) t
  | 0, s, _, _, h => by cases h; exact zero s
  | k + 1, s, t, hn, h => by
    obtain ⟨u, hu, hrun⟩ := step_of_run_succ h
    rw [accepted_succ_of_step hu]
    exact succ s u t _ (pins_rst_of_noReset hn) hu
      (run_accepted_induction zero succ k u t (noReset_of_step hn hu) hrun)

/-! #### The cursor -/

theorem step_pos (hr : s.pins.rst = false) (h : step s = .next t) :
    t.pos.val = (s.pos.val + s.nextAccepted.toList.length) % 32 := by
  obtain ⟨adc, -, hnext, rfl⟩ | ⟨-, hnext, hsame⟩ := step_capture hr h
  · rw [hnext]
    exact fin32_succ_val s.pos
  · rw [hnext, hsame.pos]
    exact (Nat.mod_eq_of_lt s.pos.isLt).symm

/-- Settles O30, by induction over the run: each cycle advances POS by the number of samples it accepts. -/
theorem cursorCountsAccepted : Obligations.CursorCountsAccepted := by
  refine run_accepted_induction (R := fun s as t => t.pos.val = (s.pos.val + as.length) % 32)
    (fun s => (Nat.mod_eq_of_lt s.pos.isLt).symm) fun s u t as hr hu ih => ?_
  rw [ih, step_pos hr hu, List.length_append]
  omega

/-! #### The window -/

theorem State.window_length (s : State) : s.window.length = 32 := List.length_ofFn

theorem State.window_getD (s : State) (j : Fin 32) : s.window.getD j.val 0 = s.ring[s.pos + j] := by
  rw [List.getD_eq_getElem _ _ (by rw [s.window_length]; exact j.isLt)]
  exact List.getElem_ofFn _

/-- `slide w as` is the window `w` with `as` appended and as many of the oldest entries gone (R23). -/
def slide (w as : List (BitVec 8)) : List (BitVec 8) := (w ++ as).drop as.length

theorem slide_nil (w : List (BitVec 8)) : slide w [] = w := by simp [slide]

/-- Sliding by two lists in turn is sliding by both. -/
theorem slide_slide (w as bs : List (BitVec 8)) : slide (slide w as) bs = slide w (as ++ bs) := by
  have hlen : as.length ≤ (w ++ as).length := by simp
  rw [slide, slide, ← List.drop_append_of_le_length hlen, List.drop_drop, List.append_assoc, slide,
    List.length_append]

/-- The entries after the oldest keep their places when the cursor moves on (R22). -/
theorem fin32_succ_add_castSucc (p : Fin 32) (i : Fin 31) : p + 1 + i.castSucc = p + i.succ := by
  rw [add_right_comm, add_assoc, Fin.coeSucc_eq_succ]

/-- The last of the 32 places from the moved cursor is the one just written. -/
theorem fin32_succ_add_last (p : Fin 32) : p + 1 + Fin.last 31 = p := by
  rw [add_assoc]
  exact add_zero p

/-- The ring write replaces the oldest entry, which the cursor then leaves behind as the newest (R110). -/
theorem State.window_pushSample (s : State) (a : BitVec 8) : (s.pushSample a).window = slide s.window [a] := by
  have hold : (fun i : Fin 31 => (s.ring.set s.pos a)[s.pos + 1 + i.castSucc]) =
      fun i : Fin 31 => s.ring[s.pos + i.succ] := by
    funext i
    rw [getElem_set_fin, fin32_succ_add_castSucc, if_neg (by simp [Fin.succ_ne_zero])]
  have hnew : (s.ring.set s.pos a)[s.pos + 1 + Fin.last 31] = a := by
    rw [getElem_set_fin, if_pos (fin32_succ_add_last _)]
  calc (s.pushSample a).window
      = List.ofFn (fun i : Fin 31 => (s.ring.set s.pos a)[s.pos + 1 + i.castSucc]) ++
          [(s.ring.set s.pos a)[s.pos + 1 + Fin.last 31]] := by
        rw [← List.concat_eq_append]
        exact List.ofFn_succ' ..
    _ = List.ofFn (fun i : Fin 31 => s.ring[s.pos + i.succ]) ++ [a] := by rw [hold, hnew]
    _ = slide s.window [a] := by
        rw [State.window, List.ofFn_succ]
        rfl

/-- One cycle slides the window by the sample it accepts, if any. -/
theorem step_window (hr : s.pins.rst = false) (h : step s = .next t) :
    t.window = slide s.window s.nextAccepted.toList := by
  obtain ⟨adc, -, hnext, rfl⟩ | ⟨-, hnext, hsame⟩ := step_capture hr h
  · rw [hnext]
    exact State.window_pushSample s _
  · rw [hnext, Option.toList_none, slide_nil]
    simp [State.window, hsame.ring, hsame.pos]

/-- Settles O28, by induction over the run with `slide_slide`. -/
theorem windowSlides : Obligations.WindowSlides := by
  refine run_accepted_induction (R := fun s as t => t.window = slide s.window as)
    (fun s => (slide_nil _).symm) fun s u t as hr hu ih => ?_
  rw [ih, step_window hr hu, slide_slide]

/-! #### From reset -/

theorem State.afterReset_window (p : Params) (st : Strategy) (ins : List PinsIn) :
    (State.afterReset p st ins).window = List.replicate 32 ringFill := by
  simp only [State.window, State.afterReset, Fin.getElem_fin, Vector.getElem_replicate, List.ofFn_const]

/-- Entry `j` of a window slid by `as` from the fill: the sample numbered `|as| - 32 + j`, or the fill (R23). -/
theorem slide_replicate_getD (as : List (BitVec 8)) (x : BitVec 8) (j : Nat) :
    (slide (List.replicate 32 x) as).getD j 0 =
      if 32 ≤ as.length + j then as.getD (as.length + j - 32) 0 else x := by
  rw [slide, List.getD_eq_getElem?_getD, List.getElem?_drop, ← List.getD_eq_getElem?_getD]
  split_ifs with h
  · rw [List.getD_append_right _ _ _ _ (by simpa using h), List.length_replicate]
  · rw [List.getD_append _ _ _ _ (by simpa using h), List.getD_replicate _ (by simpa using h)]

/-- Settles O29: the window is the fill's window slid by the accepted samples. -/
theorem ringHoldsLastSamples : Obligations.RingHoldsLastSamples := by
  intro p st ins k t hn h a j
  have hw : t.window = slide (List.replicate 32 ringFill) a := by
    rw [windowSlides k _ t hn h, State.afterReset_window]
    rfl
  rw [← State.window_getD, hw]
  exact slide_replicate_getD a ringFill j

end Sys2Proof.Machine
end

section
/-!
PROOFS. Merges of a sampling stream and an output stream (20_memory.md R60; 41_transmit.md R145): a SAMPLE and a TICK
commute, and what a stream of them leaves behind is a fold over its words.
-/

namespace Sys2Proof.Machine

variable {s t u : State} {w x y : OpWord} {adc : AdcCode} {b : Byte}

/-! #### The two events -/

theorem State.unlessHalted_ite (c : Bool) (s after : State) :
    s.unlessHalted (if c then after else s) = if s.fatal = false ∧ c = true then after else s := by
  cases hf : s.fatal with
  | true => simp [State.unlessHalted_of_fatal hf]
  | false => simp [State.unlessHalted_of_running hf]

/-- What a SAMPLE leaves: it is ignored while halted, dropped while ADC_EN = 0, else accepted (R100). -/
def State.onSample (adc : AdcCode) (s : State) : State :=
  if s.fatal = false ∧ s.adcEn = true then s.acceptSample adc else s

/-- What a TICK leaves: it is ignored while halted, dropped while OUT_EN = 0, else accepted (R140). -/
def State.onTick (b : Byte) (s : State) : State :=
  if s.fatal = false ∧ s.outEn = true then s.acceptTick b else s

theorem runWord_of_sample (h : decode w = .op (.sample adc)) (s : State) : runWord w s = .next (s.onSample adc) := by
  rw [runWord_of_op h, exec_sample, State.unlessHalted_ite, State.onSample]

theorem runWord_of_tick (h : decode w = .op (.tick b)) (s : State) : runWord w s = .next (s.onTick b) := by
  rw [runWord_of_op h, exec_tick, State.unlessHalted_ite, State.onTick]

/-- Which register an accepted TICK writes, and with what, a SAMPLE before it does not change (R145). -/
theorem State.acceptTick_acceptSample (adc : AdcCode) (b : Byte) (s : State) :
    (s.acceptSample adc).acceptTick b = (s.acceptTick b).acceptSample adc := by
  cases h : s.strat with
  | pulseWidth =>
    rw [State.acceptTick_of_pulseWidth b h, State.acceptTick_of_pulseWidth (s := s.acceptSample adc) b h]
    rfl
  | compareMatch =>
    rw [State.acceptTick_of_compareMatch b h, State.acceptTick_of_compareMatch (s := s.acceptSample adc) b h]
    rfl

/-- No SAMPLE opens or closes the gate of TICK. -/
theorem State.onSample_keeps_onTick_gate (adc : AdcCode) (s : State) :
    (s.onSample adc).fatal = s.fatal ∧ (s.onSample adc).outEn = s.outEn := by
  unfold State.onSample
  split <;> exact ⟨rfl, rfl⟩

/-- No TICK opens or closes the gate of SAMPLE. -/
theorem State.onTick_keeps_onSample_gate (b : Byte) (s : State) :
    (s.onTick b).fatal = s.fatal ∧ (s.onTick b).adcEn = s.adcEn := by
  unfold State.onTick State.acceptTick
  split
  · cases s.strat <;> exact ⟨rfl, rfl⟩
  · exact ⟨rfl, rfl⟩

/-- A SAMPLE and a TICK commute (R145): neither changes the other's gate, nor what the other reads or writes. -/
theorem State.onTick_onSample (adc : AdcCode) (b : Byte) (s : State) :
    (s.onSample adc).onTick b = (s.onTick b).onSample adc := by
  have htick : (s.onSample adc).onTick b =
      if s.fatal = false ∧ s.outEn = true then (s.onSample adc).acceptTick b else s.onSample adc := by
    obtain ⟨hfatal, hout⟩ := s.onSample_keeps_onTick_gate adc
    rw [State.onTick, hfatal, hout]
  have hsample : (s.onTick b).onSample adc =
      if s.fatal = false ∧ s.adcEn = true then (s.onTick b).acceptSample adc else s.onTick b := by
    obtain ⟨hfatal, hadc⟩ := s.onTick_keeps_onSample_gate b
    rw [State.onSample, hfatal, hadc]
  rw [htick, hsample, State.onSample, State.onTick]
  split_ifs
  · exact s.acceptTick_acceptSample adc b
  all_goals rfl

/-! #### Setting aside the pins and the one-cycle outputs -/

@[simp] theorem State.settled_strat (s : State) : s.settled.strat = s.strat := rfl

theorem State.settled_onSample (adc : AdcCode) (s : State) :
    (s.settled.onSample adc).settled = (s.onSample adc).settled := by
  simp only [State.onSample, apply_ite State.settled]
  rfl

theorem State.settled_acceptTick (b : Byte) (s : State) :
    (s.settled.acceptTick b).settled = (s.acceptTick b).settled := by
  simp only [State.acceptTick, State.settled_strat]
  split <;> rfl

theorem State.settled_onTick (b : Byte) (s : State) :
    (s.settled.onTick b).settled = (s.onTick b).settled := by
  simp only [State.onTick, apply_ite State.settled, State.settled_acceptTick]
  rfl

/-! #### A stream of events -/

/-- `w` is the word of a sampling or of an output event. -/
def IsEvent (w : OpWord) : Prop := (∃ adc, decode w = .op (.sample adc)) ∨ ∃ b, decode w = .op (.tick b)

/-- What the word `w` leaves behind once the pins and the one-cycle outputs are set aside. -/
def State.settledAfter (s : State) (w : OpWord) : State :=
  match runWord w s with
  | .next t => t.settled
  | .fault _ => s.settled
  | .refused _ => s.settled

theorem State.settledAfter_of_next (h : runWord w s = .next t) : s.settledAfter w = t.settled := by
  rw [State.settledAfter, h]

theorem State.settledAfter_of_sample (h : decode w = .op (.sample adc)) (s : State) :
    s.settledAfter w = (s.onSample adc).settled := State.settledAfter_of_next (runWord_of_sample h s)

theorem State.settledAfter_of_tick (h : decode w = .op (.tick b)) (s : State) :
    s.settledAfter w = (s.onTick b).settled := State.settledAfter_of_next (runWord_of_tick h s)

/-- An event depends on neither the coming cycles nor the last cycle's pulses. -/
theorem IsEvent.settledAfter_settled (h : IsEvent w) (s : State) : s.settled.settledAfter w = s.settledAfter w := by
  obtain ⟨adc, hd⟩ | ⟨b, hd⟩ := h
  · simp only [State.settledAfter_of_sample hd, State.settled_onSample]
  · simp only [State.settledAfter_of_tick hd, State.settled_onTick]

/-- A sampling and an output event commute (R145). -/
theorem settledAfter_comm (hx : ∃ adc, decode x = .op (.sample adc))
    (hy : ∃ b, decode y = .op (.tick b)) (s : State) :
    (s.settledAfter x).settledAfter y = (s.settledAfter y).settledAfter x := by
  obtain ⟨adc, hx⟩ := hx
  obtain ⟨b, hy⟩ := hy
  simp only [State.settledAfter_of_sample hx, State.settledAfter_of_tick hy, State.settled_onSample,
    State.settled_onTick, State.onTick_onSample]

/-- The first cycle of a stream takes its first word, and leaves the rest of the stream to come. -/
theorem step_feeding {ws : List OpWord} (hw : IsEvent w) (h : step (s.feeding (w :: ws)) = .next u) :
    u = u.feeding ws ∧ u.settled = s.settled.settledAfter w := by
  have hu : u.inputs = ws.map PinsIn.word := by
    obtain ⟨hv, -⟩ | ⟨-, he⟩ := step_effect rfl h
    · cases hv
    · exact he.inputs_eq
  rw [step_of_word rfl rfl] at h
  refine ⟨by rw [State.feeding, ← hu], ?_⟩
  calc u.settled
      = (s.feeding (w :: ws)).beginCycle.settledAfter w := (State.settledAfter_of_next h).symm
    _ = s.settled.settledAfter w := (hw.settledAfter_settled _).symm

/-- What a run through a stream of events leaves behind is the fold of its words. -/
theorem run_feeding_settled : ∀ (zs : List OpWord) (s t : State), (∀ w ∈ zs, IsEvent w) →
    core.run zs.length (s.feeding zs) = .next t → t.settled = zs.foldl State.settledAfter s.settled
  | [], _, _, _, h => by cases h; rfl
  | w :: ws, s, t, hev, h => by
    obtain ⟨hw, hws⟩ := List.forall_mem_cons.mp hev
    obtain ⟨u, hu, hrun⟩ := step_of_run_succ h
    obtain ⟨hfeed, hset⟩ := step_feeding hw hu
    rw [hfeed] at hrun
    rw [run_feeding_settled ws u t hws hrun, hset, List.foldl_cons]

/-! #### Merges -/

section Merge
variable {α β : Type} {xs ys zs : List α} {f : β → α → β}

theorem Interleaving.perm (h : Interleaving xs ys zs) : zs.Perm (xs ++ ys) := by
  induction h with
  | nil => exact .nil
  | left _ ih => exact ih.cons _
  | right _ ih => exact (ih.cons _).trans List.perm_middle.symm

/-- An element that commutes with each of `xs` may be taken before or after all of them. -/
theorem foldl_comm_of_forall {y : α} (hc : ∀ x ∈ xs, ∀ b, f (f b x) y = f (f b y) x) (b : β) :
    xs.foldl f (f b y) = f (xs.foldl f b) y := by
  induction xs generalizing b with
  | nil => rfl
  | cons x xs ih =>
    obtain ⟨hx, hxs⟩ := List.forall_mem_cons.mp hc
    rw [List.foldl_cons, List.foldl_cons, ← hx, ih hxs]

/-- If each element of one list commutes with each of the other, folding any merge of the two is folding first the one
and then the other. -/
theorem Interleaving.foldl_eq (h : Interleaving xs ys zs)
    (hc : ∀ x ∈ xs, ∀ y ∈ ys, ∀ b, f (f b x) y = f (f b y) x) (b : β) :
    zs.foldl f b = ys.foldl f (xs.foldl f b) := by
  induction h generalizing b with
  | nil => rfl
  | left _ ih => exact ih (fun x hx => hc x (List.mem_cons_of_mem _ hx)) _
  | right _ ih =>
    rw [List.foldl_cons, List.foldl_cons, ih fun x hx y hy => hc x hx y (List.mem_cons_of_mem _ hy),
      foldl_comm_of_forall fun x hx => hc x hx _ List.mem_cons_self]

end Merge

variable {xs ys zs : List OpWord}

theorem Interleaving.isEvent (h : Interleaving xs ys zs) (hx : ∀ w ∈ xs, ∃ adc, decode w = .op (.sample adc))
    (hy : ∀ w ∈ ys, ∃ b, decode w = .op (.tick b)) : ∀ w ∈ zs, IsEvent w := fun w hw =>
  (List.mem_append.mp (h.perm.mem_iff.mp hw)).imp (hx w) (hy w)

/-- What a merge leaves behind is what the sampling stream and then the output stream leaves. -/
theorem Interleaving.run_settled (h : Interleaving xs ys zs) (hx : ∀ w ∈ xs, ∃ adc, decode w = .op (.sample adc))
    (hy : ∀ w ∈ ys, ∃ b, decode w = .op (.tick b)) (hrun : core.run zs.length (s.feeding zs) = .next t) :
    t.settled = ys.foldl State.settledAfter (xs.foldl State.settledAfter s.settled) := by
  rw [run_feeding_settled zs s t (h.isEvent hx hy) hrun]
  exact h.foldl_eq (fun x hmx y hmy => settledAfter_comm (hx x hmx) (hy y hmy)) _

/-- Settles O39: every merge leaves what the whole sampling stream followed by the whole output stream leaves. -/
theorem eventMergeOrderIrrelevant : Obligations.EventMergeOrderIrrelevant := by
  intro s t t' xs ys zs zs' hx hy h h' hrun hrun'
  rw [h.run_settled hx hy hrun, h'.run_settled hx hy hrun']

end Sys2Proof.Machine
end

section
/-!
PROOFS. The fields of a word (30_encoding.md R70, R72 to R74): as parts of the word and as numbers.
-/

namespace Sys2Proof

/-! #### The word from its fields -/

theorem opcField_append_payloadField (w : OpWord) : opcField w ++ payloadField w = w :=
  BitVec.extractLsb'_append_extractLsb' (w := 4) (len := 12)

theorem opcField_append_sampleZeros_append_adcField (w : OpWord) :
    opcField w ++ sampleZeros w ++ adcField w = w := by
  have h : opcField w ++ sampleZeros w = w.extractLsb' 10 6 :=
    BitVec.extractLsb'_append_extractLsb'_eq_extractLsb' rfl
  rw [h]
  exact BitVec.extractLsb'_append_extractLsb' (w := 6) (len := 10)

theorem opcField_append_addrField_append_dataField (w : OpWord) :
    opcField w ++ addrField w ++ dataField w = w := by
  have h : opcField w ++ addrField w = w.extractLsb' 8 8 :=
    BitVec.extractLsb'_append_extractLsb'_eq_extractLsb' rfl
  rw [h]
  exact BitVec.extractLsb'_append_extractLsb' (w := 8) (len := 8)

/-! #### The fields of a word in format W or R, and in format S -/

@[simp] theorem opcField_append (c a : BitVec 4) (d : Byte) : opcField (c ++ a ++ d) = c := by
  unfold opcField
  rw [BitVec.extractLsb'_append_eq_of_le (by decide)]
  exact BitVec.extractLsb'_append_eq_left

@[simp] theorem addrField_append (c a : BitVec 4) (d : Byte) : addrField (c ++ a ++ d) = a := by
  unfold addrField
  rw [BitVec.extractLsb'_append_eq_of_le (by decide)]
  exact BitVec.extractLsb'_append_eq_right

@[simp] theorem dataField_append (hi d : Byte) : dataField (hi ++ d) = d := BitVec.extractLsb'_append_eq_right

@[simp] theorem opcField_append_formatS (c : BitVec 4) (z : BitVec 2) (adc : AdcCode) :
    opcField (c ++ z ++ adc) = c := by
  unfold opcField
  rw [BitVec.extractLsb'_append_eq_of_le (by decide)]
  exact BitVec.extractLsb'_append_eq_left

@[simp] theorem sampleZeros_append_formatS (c : BitVec 4) (z : BitVec 2) (adc : AdcCode) :
    sampleZeros (c ++ z ++ adc) = z := by
  unfold sampleZeros
  rw [BitVec.extractLsb'_append_eq_of_le (by decide)]
  exact BitVec.extractLsb'_append_eq_right

@[simp] theorem adcField_append (hi : BitVec 6) (adc : AdcCode) : adcField (hi ++ adc) = adc :=
  BitVec.extractLsb'_append_eq_right

/-! #### The fields as numbers -/

theorem payloadField_toNat (w : OpWord) : (payloadField w).toNat = w.toNat % 4096 := by
  simp [payloadField]

theorem adcField_toNat (w : OpWord) : (adcField w).toNat = w.toNat % 1024 := by
  simp [adcField]

theorem sampleZeros_toNat (w : OpWord) : (sampleZeros w).toNat = w.toNat / 1024 % 4 := by
  simp [sampleZeros, Nat.shiftRight_eq_div_pow]

theorem addrField_toNat (w : OpWord) : (addrField w).toNat = w.toNat / 256 % 16 := by
  simp [addrField, Nat.shiftRight_eq_div_pow]

theorem dataField_toNat (w : OpWord) : (dataField w).toNat = w.toNat % 256 := by
  simp [dataField]

end Sys2Proof
end

section
/-!
PROOFS. The decoder class by class (30_encoding.md R79) and the round trips between words and operations: an operation is
what its word decodes to (R72 to R77), and its word is the only one that does (R78).
-/

namespace Sys2Proof
variable {w : OpWord} {i : Instr} {a : RegAddr} {d : Byte}

/-! #### What the decoder does with each OPC -/

theorem decode_of_opc_nop (h : opcField w = 0x0#4) :
    decode w = if payloadField w = 0#12 then .op .nop else .illegal .nopPayload := by
  simp only [decode, h]

theorem decode_of_opc_sample (h : opcField w = 0x1#4) :
    decode w = if sampleZeros w = 0#2 then .op (.sample (adcField w)) else .illegal .samplePayload := by
  simp only [decode, h]

theorem decode_of_opc_tick (h : opcField w = 0x2#4) :
    decode w = if addrField w = 0#4 then .op (.tick (dataField w)) else .illegal .tickPayload := by
  simp only [decode, h]

theorem decode_of_opc_write (h : opcField w = 0x3#4) : decode w = decodeWrite (addrField w) (dataField w) := by
  simp only [decode, h]

theorem decode_of_opc_read (h : opcField w = 0x4#4) : decode w = decodeRead (addrField w) (dataField w) := by
  simp only [decode, h]

theorem decode_of_opc_reserved (h : 5 ≤ (opcField w).toNat) : decode w = .illegal .reservedClass := by
  unfold decode
  split
  case h_6 => rfl
  all_goals
    rename_i hc
    simp [hc] at h

/-- The classes of OPC (R79). -/
theorem opcField_cases (w : OpWord) :
    opcField w = 0x0#4 ∨ opcField w = 0x1#4 ∨ opcField w = 0x2#4 ∨ opcField w = 0x3#4 ∨ opcField w = 0x4#4 ∨
      5 ≤ (opcField w).toNat := by
  bv_omega

/-! #### Decoding an encoding -/

theorem decode_writeWord (a : RegAddr) (d : Byte) : decode (writeWord a d) = decodeWrite a d := by
  unfold writeWord
  rw [decode_of_opc_write (opcField_append _ _ _), addrField_append, dataField_append]

theorem decode_readWord (a : RegAddr) : decode (readWord a) = decodeRead a 0x00#8 := by
  unfold readWord
  rw [decode_of_opc_read (opcField_append _ _ _), addrField_append, dataField_append]

theorem decode_encode_sample (adc : AdcCode) : decode (encode (.sample adc)) = .op (.sample adc) := by
  unfold encode
  rw [decode_of_opc_sample (opcField_append_formatS _ _ _), sampleZeros_append_formatS, adcField_append, if_pos rfl]

theorem decode_encode_tick (b : Byte) : decode (encode (.tick b)) = .op (.tick b) := by
  unfold encode
  rw [decode_of_opc_tick (opcField_append _ _ _), addrField_append, dataField_append, if_pos rfl]

/-- Settles O2, by the formats of R72 to R74: the fields of an encoding are the ones it was put together from. -/
theorem decodeOfEncode : Obligations.DecodeOfEncode := by
  intro i
  cases i with
  | nop => decide
  | sample adc => exact decode_encode_sample adc
  | tick b => exact decode_encode_tick b
  | startTx | stopTx | clrErr | init | wrGain | wrThresh | wrPort => exact decode_writeWord _ _
  | rdCmd | rdInit | rdGain | rdThresh | rdStatus | rdPtp | rdConfig | rdDuty | rdPort | rdCond =>
    exact decode_readWord _

/-! #### Encoding what was decoded -/

theorem encode_of_decodeCommand (h : decodeCommand d = .op i) : encode i = writeWord 0x0 d := by
  unfold decodeCommand at h
  split at h <;> cases h <;> rfl

theorem encode_of_decodeWrite (h : decodeWrite a d = .op i) : encode i = writeWord a d := by
  unfold decodeWrite at h
  split at h
  case h_1 => exact encode_of_decodeCommand h
  all_goals cases h <;> rfl

/-- A legal read has a zero payload, so its word drops no bit of it (R74). -/
theorem encode_of_decodeRead (h : decodeRead a d = .op i) : encode i = 0x4#4 ++ a ++ d := by
  unfold decodeRead at h
  split at h
  · cases h
  · rename_i hd
    rw [not_not.mp hd]
    split at h <;> cases h <;> rfl

/-- Settles O3, by the classes of OPC: a word is its fields put together, and a class that an operation comes from leaves
no other field free than that operation's operands. -/
theorem encodeOfDecode : Obligations.EncodeOfDecode := by
  intro w i hd
  obtain h | h | h | h | h | h := opcField_cases w
  · rw [decode_of_opc_nop h] at hd
    split_ifs at hd with hz
    cases hd
    rw [← opcField_append_payloadField w, h, hz]
    rfl
  · rw [decode_of_opc_sample h] at hd
    split_ifs at hd with hz
    cases hd
    rw [← opcField_append_sampleZeros_append_adcField w, h, hz, adcField_append]
    rfl
  · rw [decode_of_opc_tick h] at hd
    split_ifs at hd with hz
    cases hd
    rw [← opcField_append_addrField_append_dataField w, h, hz, dataField_append]
    rfl
  · rw [decode_of_opc_write h] at hd
    rw [encode_of_decodeWrite hd, writeWord, ← h]
    exact opcField_append_addrField_append_dataField w
  · rw [decode_of_opc_read h] at hd
    rw [encode_of_decodeRead hd, ← h]
    exact opcField_append_addrField_append_dataField w
  · rw [decode_of_opc_reserved h] at hd
    cases hd

/-- A word decodes to the operation whose encoding it is (R78). -/
theorem decode_eq_op_iff : decode w = .op i ↔ encode i = w :=
  ⟨encodeOfDecode w i, fun h => h ▸ decodeOfEncode i⟩

/-- Settles O1, by evaluating the decoder on the words. -/
theorem decodeReadsSpecWords : Obligations.DecodeReadsSpecWords := by
  unfold Obligations.DecodeReadsSpecWords
  decide

end Sys2Proof
end

section
/-!
PROOFS. The illegal words class by class (30_encoding.md R81).
-/

namespace Sys2Proof
variable {why : IllegalWord} {whyRead : IllegalRead}

theorem toNat_eq_zero_iff {n : Nat} (x : BitVec n) : x.toNat = 0 ↔ x = 0#n := by
  simp [← BitVec.toNat_inj]

theorem decodeCommand_eq_illegal_iff (d : Byte) :
    decodeCommand d = .illegal why ↔ why = .unknownCommand ∧ (d.toNat = 0 ∨ 4 ≤ d.toNat) := by
  unfold decodeCommand
  split
  case h_4 =>
    simp only [imp_false] at *
    have hd : d.toNat = 0 ∨ 4 ≤ d.toNat := by bv_omega
    simp only [hd, Decoded.illegal.injEq, eq_comm (b := why), and_true]
  all_goals simp

/-- The illegal writes: classes (e), (f) and (g) of R81. -/
theorem decodeWrite_eq_illegal_iff (a : RegAddr) (d : Byte) :
    decodeWrite a d = .illegal why ↔
      why = .unknownCommand ∧ a.toNat = 0 ∧ (d.toNat = 0 ∨ 4 ≤ d.toNat) ∨
      why = .readOnlyRegister ∧ (a.toNat = 4 ∨ a.toNat = 5 ∨ a.toNat = 6 ∨ a.toNat = 7 ∨ a.toNat = 9) ∨
      why = .reservedAddress ∧ 10 ≤ a.toNat := by
  unfold decodeWrite
  split
  case h_1 => simp [decodeCommand_eq_illegal_iff]
  case h_11 =>
    simp only [imp_false] at *
    have ha : 10 ≤ a.toNat := by bv_omega
    have hcmd : a.toNat ≠ 0 := by omega
    have hro : ¬ (a.toNat = 4 ∨ a.toNat = 5 ∨ a.toNat = 6 ∨ a.toNat = 7 ∨ a.toNat = 9) := by omega
    simp only [ha, hcmd, hro, Decoded.illegal.injEq, eq_comm (b := why), false_and, and_false, false_or, and_true]
  all_goals simp [eq_comm]

/-- The illegal reads: classes (h) and (i) of R81. -/
theorem decodeRead_eq_illegalRead_iff (a : RegAddr) (d : Byte) :
    decodeRead a d = .illegalRead whyRead ↔
      whyRead = .payload ∧ d.toNat ≠ 0 ∨ whyRead = .reservedAddress ∧ d.toNat = 0 ∧ 10 ≤ a.toNat := by
  unfold decodeRead
  split
  case isTrue hd => simp [toNat_eq_zero_iff, hd, eq_comm (b := whyRead)]
  case isFalse hd =>
    rw [not_not.mp hd]
    split
    case h_11 =>
      simp only [imp_false] at *
      have ha : 10 ≤ a.toNat := by bv_omega
      simp [ha, eq_comm]
    all_goals simp

theorem decodeWrite_ne_illegalRead (a : RegAddr) (d : Byte) : decodeWrite a d ≠ .illegalRead whyRead := fun h => by
  simpa [h, Decoded.isRead] using decodeWrite_isRead a d

theorem decodeRead_ne_illegal (a : RegAddr) (d : Byte) : decodeRead a d ≠ .illegal why := fun h => by
  simpa [h, Decoded.isRead] using decodeRead_isRead a d

/-- Settles O5, by the classes of OPC: in each of them the decoder has the classes of R81 with that OPC and no other. -/
theorem illegalWordClasses : Obligations.IllegalWordClasses := by
  intro w
  simp only [← opcField_toNat, ← addrField_toNat, ← dataField_toNat, ← payloadField_toNat, ← sampleZeros_toNat]
  obtain h | h | h | h | h | h := opcField_cases w
  · rw [decode_of_opc_nop h]
    by_cases hz : payloadField w = 0#12 <;> simp [h, hz, toNat_eq_zero_iff]
  · rw [decode_of_opc_sample h]
    by_cases hz : sampleZeros w = 0#2 <;> simp [h, hz, toNat_eq_zero_iff]
  · rw [decode_of_opc_tick h]
    by_cases hz : addrField w = 0#4 <;> simp [h, hz, toNat_eq_zero_iff]
  · rw [decode_of_opc_write h]
    simp [h, decodeWrite_eq_illegal_iff, decodeWrite_ne_illegalRead]
  · rw [decode_of_opc_read h]
    simp [h, decodeRead_eq_illegalRead_iff, decodeRead_ne_illegal]
  · have hne : ∀ c < 5, (opcField w).toNat ≠ c := fun c hc => by omega
    rw [decode_of_opc_reserved h]
    simp [h, hne]

end Sys2Proof
end

section
/-!
PROOFS. The opcode map (30_encoding.md R80): its rows are the operations, one row for each.
-/

namespace Sys2Proof
variable {w : OpWord} {r r' : OpcodeRow} {i : Instr}

/-- What a mask of leading ones says of a word. -/
theorem and_leadingOnes_eq_iff {m n : Nat} (w : BitVec (m + n)) (hi : BitVec m) :
    w &&& (BitVec.allOnes m ++ 0#n) = hi ++ 0#n ↔ w = hi ++ w.extractLsb' 0 n := by
  obtain ⟨a, b, rfl⟩ : ∃ (a : BitVec m) (b : BitVec n), w = a ++ b := ⟨_, _, BitVec.extractLsb'_append_extractLsb'.symm⟩
  rw [BitVec.and_append, BitVec.and_allOnes, BitVec.and_zero, BitVec.append_left_inj,
    BitVec.extractLsb'_append_eq_right, BitVec.append_left_inj]

/-- Every word of the row is the encoding of an operation with the row's mnemonic. -/
def OpcodeRow.Spelled (r : OpcodeRow) : Prop :=
  ∀ w : OpWord, r.covers w = true → ∃ i : Instr, encode i = w ∧ i.mnemonic = r.mnemonic

/-- A row of one word. -/
theorem OpcodeRow.Spelled.exact (i : Instr) : OpcodeRow.Spelled ⟨i.mnemonic, encode i, 0xFFFF⟩ := fun w h => by
  have hw : w &&& BitVec.allOnes 16 = encode i := eq_of_beq h
  exact ⟨i, by rw [← hw, BitVec.and_allOnes], rfl⟩

/-- A row of the words with the same leading byte. -/
theorem OpcodeRow.Spelled.byte (f : Byte → Instr) {m : String} {hi : Byte}
    (hf : ∀ v, encode (f v) = hi ++ v ∧ (f v).mnemonic = m) :
    OpcodeRow.Spelled ⟨m, hi ++ 0#8, 0xFF00⟩ := fun w h => by
  have hw : w &&& (BitVec.allOnes 8 ++ 0#8) = hi ++ 0#8 := eq_of_beq h
  obtain ⟨henc, hm⟩ := hf (dataField w)
  exact ⟨_, henc.trans ((and_leadingOnes_eq_iff (m := 8) (n := 8) w hi).mp hw).symm, hm⟩

theorem OpcodeRow.Spelled.sample : OpcodeRow.Spelled ⟨"SAMPLE", 0x1000, 0xFC00⟩ := fun w h => by
  have hw : w &&& (BitVec.allOnes 6 ++ 0#10) = (0x1#4 ++ 0#2) ++ 0#10 := eq_of_beq h
  exact ⟨.sample (adcField w), ((and_leadingOnes_eq_iff (m := 6) (n := 10) w _).mp hw).symm, rfl⟩

theorem opcodeMap_spelled : ∀ r ∈ opcodeMap, r.Spelled := by
  simp only [opcodeMap, List.forall_mem_append, List.forall_mem_cons]
  exact
    ⟨⟨.exact .nop, .sample, .byte (hi := 0x20) .tick fun _ => ⟨rfl, rfl⟩, .exact .startTx, .exact .stopTx, .exact .clrErr,
      .byte (hi := 0x31) .init fun _ => ⟨rfl, rfl⟩, .byte (hi := 0x32) .wrGain fun _ => ⟨rfl, rfl⟩,
      .byte (hi := 0x33) .wrThresh fun _ => ⟨rfl, rfl⟩, .byte (hi := 0x38) .wrPort fun _ => ⟨rfl, rfl⟩, nofun⟩,
     .exact .rdCmd, .exact .rdInit, .exact .rdGain, .exact .rdThresh, .exact .rdStatus, .exact .rdPtp,
     .exact .rdConfig, .exact .rdDuty, .exact .rdPort, .exact .rdCond, nofun⟩

/-- Every operation has a row, which its word lies in. -/
theorem tableRow (i : Instr) : Laws.TableRow.Statement i := by
  cases i with
  | nop => exact Laws.TableRow.nop
  | sample adc => exact Laws.TableRow.sample adc
  | tick v => exact Laws.TableRow.tick v
  | startTx => exact Laws.TableRow.startTx
  | stopTx => exact Laws.TableRow.stopTx
  | clrErr => exact Laws.TableRow.clrErr
  | init v => exact Laws.TableRow.init v
  | wrGain v => exact Laws.TableRow.wrGain v
  | wrThresh v => exact Laws.TableRow.wrThresh v
  | wrPort v => exact Laws.TableRow.wrPort v
  | rdCmd => exact Laws.TableRow.rdCmd
  | rdInit => exact Laws.TableRow.rdInit
  | rdGain => exact Laws.TableRow.rdGain
  | rdThresh => exact Laws.TableRow.rdThresh
  | rdStatus => exact Laws.TableRow.rdStatus
  | rdPtp => exact Laws.TableRow.rdPtp
  | rdConfig => exact Laws.TableRow.rdConfig
  | rdDuty => exact Laws.TableRow.rdDuty
  | rdPort => exact Laws.TableRow.rdPort
  | rdCond => exact Laws.TableRow.rdCond

theorem opcodeMap_mnemonics_nodup : (opcodeMap.map OpcodeRow.mnemonic).Nodup := by decide

theorem eq_of_mnemonic_eq (hr : r ∈ opcodeMap) (hr' : r' ∈ opcodeMap) (h : r.mnemonic = r'.mnemonic) : r = r' :=
  List.inj_on_of_nodup_map opcodeMap_mnemonics_nodup hr hr' h

theorem covers_iff_encode (hr : r ∈ opcodeMap) :
    r.covers w = true ↔ ∃ i : Instr, encode i = w ∧ i.mnemonic = r.mnemonic := by
  refine ⟨opcodeMap_spelled r hr w, ?_⟩
  rintro ⟨i, rfl, hm⟩
  obtain ⟨r', hr', hm', hcov⟩ := tableRow i
  rwa [eq_of_mnemonic_eq hr hr' (hm.symm.trans hm'.symm)]

theorem covers_iff_decode (hr : r ∈ opcodeMap) :
    r.covers w = true ↔ ∃ i, decode w = .op i ∧ i.mnemonic = r.mnemonic := by
  simp only [covers_iff_encode hr, decode_eq_op_iff]

/-- No two rows match the same word (R80). -/
theorem eq_of_covers (hr : r ∈ opcodeMap) (hr' : r' ∈ opcodeMap) (h : r.covers w = true) (h' : r'.covers w = true) :
    r = r' := by
  obtain ⟨i, hi, hm⟩ := (covers_iff_decode hr).mp h
  obtain ⟨i', hi', hm'⟩ := (covers_iff_decode hr').mp h'
  have hii : i = i' := Decoded.op.inj (hi.symm.trans hi')
  exact eq_of_mnemonic_eq hr hr' (by rw [← hm, ← hm', hii])

/-- A word in no row is illegal, and a read exactly when its OPC is 0x4 (R80). -/
theorem decode_of_no_row (h : ∀ r ∈ opcodeMap, r.covers w = false) :
    if w.toNat / 4096 = 4 then ∃ why, decode w = .illegalRead why else ∃ why, decode w = .illegal why := by
  simp only [← decode_isRead_iff]
  cases hd : decode w with
  | op i =>
    obtain ⟨r, hr, -, hcov⟩ := tableRow i
    rw [decode_eq_op_iff.mp hd, h r hr] at hcov
    cases hcov
  | illegal why => simp [Decoded.isRead]
  | illegalRead why => simp [Decoded.isRead]

theorem adc_of_decode {adc : AdcCode} (h : decode w = .op (.sample adc)) : adc.toNat = w.toNat % 1024 := by
  rw [← decode_eq_op_iff.mp h, ← adcField_toNat, encode, adcField_append]

/-- TICK, INIT and the register writes carry their byte in bits 7:0 (R72, R73). -/
theorem byte_of_decode {hi b : Byte} (henc : encode i = hi ++ b) (h : decode w = .op i) :
    b.toNat = w.toNat % 256 := by
  rw [← decode_eq_op_iff.mp h, ← dataField_toNat, henc, dataField_append]

/-- Settles O4, by the operations as the words of the rows. -/
theorem decodeFollowsOpcodeMap : Obligations.DecodeFollowsOpcodeMap := by
  refine ⟨fun _ _ => covers_iff_decode, fun _ _ _ => eq_of_covers, fun w => ⟨fun _ => adc_of_decode, ?_⟩,
    fun _ => decode_of_no_row⟩
  rintro b (h | h | h | h | h)
  · exact byte_of_decode (hi := 0x20) rfl h
  · exact byte_of_decode (hi := 0x31) rfl h
  · exact byte_of_decode (hi := 0x32) rfl h
  · exact byte_of_decode (hi := 0x33) rfl h
  · exact byte_of_decode (hi := 0x38) rfl h

end Sys2Proof
end

section
/-!
PROOFS. The assembler and the disassembler (30_encoding.md R84, R85).
-/

namespace Sys2Proof
variable {w : OpWord} {i : Instr} {op : SourceOp}

/-! #### Lines and their words -/

theorem assemble_of_wellFormed (h : op.wellFormed = true) : assemble op = some op.words := if_pos h

theorem assemble_eq_none_iff : assemble op = none ↔ op.wellFormed = false := by
  simp [assemble]

theorem ofNat_or_byte (hi v : Byte) : BitVec.ofNat 16 (hi.toNat <<< 8 ||| v.toNat) = hi ++ v := by
  rw [← BitVec.toNat_append, BitVec.ofNat_toNat, BitVec.setWidth_eq]

theorem ofNat_or_adc (hi : BitVec 6) (adc : AdcCode) :
    BitVec.ofNat 16 (hi.toNat <<< 10 ||| adc.toNat) = hi ++ adc := by
  rw [← BitVec.toNat_append, BitVec.ofNat_toNat, BitVec.setWidth_eq]

theorem wellFormed_source (i : Instr) : i.source.wellFormed = true := by
  cases i with
  | sample adc => exact decide_eq_true (Nat.le_of_lt_succ adc.isLt)
  | tick v | init v | wrGain v | wrThresh v | wrPort v => exact decide_eq_true (Nat.le_of_lt_succ v.isLt)
  | _ => rfl

theorem words_source (i : Instr) : i.source.words = [encode i] := by
  cases i with
  | sample adc => exact congrArg (fun x => [x]) (ofNat_or_adc (0x1#4 ++ 0#2) adc)
  | tick v => exact congrArg (fun x => [x]) (ofNat_or_byte 0x20 v)
  | init v => exact congrArg (fun x => [x]) (ofNat_or_byte 0x31 v)
  | wrGain v => exact congrArg (fun x => [x]) (ofNat_or_byte 0x32 v)
  | wrThresh v => exact congrArg (fun x => [x]) (ofNat_or_byte 0x33 v)
  | wrPort v => exact congrArg (fun x => [x]) (ofNat_or_byte 0x38 v)
  | _ => rfl

theorem assemble_source (i : Instr) : assemble i.source = some [encode i] := by
  rw [assemble_of_wellFormed (wellFormed_source i), words_source]

/-- The address of a generic write or read stands between OPC and the low byte. -/
theorem opc_or_addr {a : Nat} (c : Nat) (ha : a ≤ 15) : (2 ^ 12 * c ||| a <<< 8) = 2 ^ 12 * c + a * 256 := by
  rw [Nat.shiftLeft_eq, Nat.two_pow_add_eq_or_of_lt (by omega)]

theorem opc_or_addr_or_data {a d : Nat} (c : Nat) (ha : a ≤ 15) (hd : d ≤ 255) :
    (2 ^ 12 * c ||| a <<< 8 ||| d) = 2 ^ 12 * c + a * 256 + d := by
  have h : 2 ^ 12 * c + a * 256 = 2 ^ 8 * (2 ^ 4 * c + a) := by omega
  rw [opc_or_addr c ha, h, ← Nat.two_pow_add_eq_or_of_lt (by omega)]

theorem assemble_wr (a d : Nat) :
    assemble (.wr a d) = if a ≤ 15 ∧ d ≤ 255 then some [BitVec.ofNat 16 (0x3000 + a * 256 + d)] else none := by
  split_ifs with h
  · rw [assemble_of_wellFormed (by simpa [SourceOp.wellFormed] using h)]
    exact congrArg (fun n => some [BitVec.ofNat 16 n]) (opc_or_addr_or_data 3 h.1 h.2)
  · rw [assemble_eq_none_iff]
    simpa [SourceOp.wellFormed] using h

theorem assemble_rd (a : Nat) :
    assemble (.rd a) = if a ≤ 15 then some [BitVec.ofNat 16 (0x4000 + a * 256)] else none := by
  split_ifs with h
  · rw [assemble_of_wellFormed (by simpa [SourceOp.wellFormed] using h)]
    exact congrArg (fun n => some [BitVec.ofNat 16 n]) (opc_or_addr 4 h)
  · rw [assemble_eq_none_iff]
    simpa [SourceOp.wellFormed] using h

theorem assemble_word (n : Nat) : assemble (.word n) = if n ≤ 0xFFFF then some [BitVec.ofNat 16 n] else none := by
  simp [assemble, SourceOp.wellFormed, SourceOp.words]

theorem assemble_word_toNat (w : OpWord) : assemble (.word w.toNat) = some [w] := by
  rw [assemble_word, if_pos (Nat.le_of_lt_succ w.isLt), BitVec.ofNat_toNat, BitVec.setWidth_eq]

theorem assemble_sampleRaw (r : Int) :
    assemble (.sampleRaw r) = if -512 ≤ r ∧ r ≤ 511 then assemble (.sample (r + 512).toNat) else none := by
  split_ifs with h
  · have hadc : (r + 512).toNat ≤ 1023 := by omega
    rw [assemble_of_wellFormed (by simpa [SourceOp.wellFormed] using h),
      assemble_of_wellFormed (by simpa [SourceOp.wellFormed] using hadc)]
    rfl
  · rw [assemble_eq_none_iff]
    simpa [SourceOp.wellFormed] using h

theorem assemble_rept_zero (op : SourceOp) : assemble (.rept 0 op) = none := rfl

theorem assemble_rept_of_none (k : Nat) (h : assemble op = none) : assemble (.rept k op) = none := by
  rw [assemble_eq_none_iff] at h ⊢
  simp [SourceOp.wellFormed, h]

theorem assemble_rept_of_some {k : Nat} {ws : List OpWord} (hk : 1 ≤ k) (h : assemble op = some ws) :
    assemble (.rept k op) = some (List.replicate k ws).flatten := by
  obtain ⟨hop, rfl⟩ : op.wellFormed = true ∧ op.words = ws := by simpa [assemble] using h
  exact assemble_of_wellFormed (by simp [SourceOp.wellFormed, hk, hop])

theorem assemble_byte_eq_none {n : Nat} (h : 255 < n) :
    assemble (.tick n) = none ∧ assemble (.init n) = none ∧ assemble (.wrGain n) = none ∧
      assemble (.wrThresh n) = none ∧ assemble (.wrPort n) = none := by
  simp [assemble_eq_none_iff, SourceOp.wellFormed, h]

/-- Settles O7, form by form. -/
theorem assemblerForms : Obligations.AssemblerForms :=
  ⟨assemble_source, fun _ h => assemble_eq_none_iff.mpr (decide_eq_false (Nat.not_le.mpr h)),
   fun _ h => assemble_byte_eq_none h, assemble_wr, assemble_rd, assemble_word, rfl, rfl, rfl,
   fun _ _ => ⟨rfl, rfl, rfl, rfl⟩, rfl, rfl, rfl, rfl, rfl, rfl, rfl, rfl, rfl, rfl, assemble_sampleRaw,
   assemble_rept_zero, fun k _ => assemble_rept_of_none k, fun _ _ _ => assemble_rept_of_some⟩

/-! #### The disassembler -/

theorem disassemble_of_op (h : decode w = .op i) : disassemble w = .named i.source := by
  simp only [disassemble, h]

theorem disassembleText_of_op (h : decode w = .op i) :
    disassembleText w = i.operand.elim i.mnemonic fun n => i.mnemonic ++ " " ++ toString n := by
  simp only [disassembleText, h]
  cases i.operand <;> rfl

theorem disassemble_of_illegal {why : IllegalWord} (h : decode w = .illegal why) :
    disassemble w = .illegal w ∧ disassembleText w = "ILLEGAL .word " ++ toString w.toNat := by
  simp only [disassemble, disassembleText, h, and_self]

theorem disassemble_of_illegalRead {why : IllegalRead} (h : decode w = .illegalRead why) :
    disassemble w = .illegalRead w ∧ disassembleText w = "ILLEGAL_READ .word " ++ toString w.toNat := by
  simp only [disassemble, disassembleText, h, and_self]

/-- Disassembling loses nothing: the line behind what is printed assembles to the word again (R85). -/
theorem assemble_disassemble (w : OpWord) : assemble (disassemble w).source = some [w] := by
  cases hd : decode w with
  | op i =>
    rw [disassemble_of_op hd, Disassembled.source, assemble_source, decode_eq_op_iff.mp hd]
  | illegal why =>
    rw [(disassemble_of_illegal hd).1]
    exact assemble_word_toNat w
  | illegalRead why =>
    rw [(disassemble_of_illegalRead hd).1]
    exact assemble_word_toNat w

/-- Settles O6, by what the word decodes to: the rows give the named forms and the words of no row the illegal ones. -/
theorem disassembledAssembles : Obligations.DisassembledAssembles := by
  refine ⟨assemble_disassemble, fun w r hr hcov => ?_, fun w hno => ?_⟩
  · obtain ⟨i, hd, hm⟩ := (covers_iff_decode hr).mp hcov
    exact ⟨i, hm, decode_eq_op_iff.mp hd, disassemble_of_op hd, disassembleText_of_op hd⟩
  · have hill := decode_of_no_row hno
    split_ifs at hill ⊢
    · exact disassemble_of_illegalRead hill.choose_spec
    · exact disassemble_of_illegal hill.choose_spec

end Sys2Proof
end

section
/-!
PROOFS. The attenuation of an ADC code (40_capture.md R101, R102): the floor shift by its two inequalities, and the
clamp.
-/

namespace Sys2Proof.Machine

variable {v q raw : Int} {g : Nat}

/-! #### The floor shift -/

/-- The floor shift is the greatest integer whose product with the divisor does not exceed the value (R11). -/
theorem le_asr_iff : q ≤ asr v g ↔ q * 2 ^ g ≤ v := Int.le_ediv_iff_mul_le (by positivity)

theorem asr_lt_iff : asr v g < q ↔ v < q * 2 ^ g := Int.ediv_lt_iff_lt_mul (by positivity)

theorem asr_eq_iff : asr v g = q ↔ q * 2 ^ g ≤ v ∧ v < (q + 1) * 2 ^ g := by
  rw [← le_asr_iff, ← asr_lt_iff]
  omega

theorem asr_neg_one (g : Nat) : asr (-1) g = -1 := by
  have : (0 : Int) < 2 ^ g := by positivity
  exact asr_eq_iff.mpr (by omega)

theorem raw_bound_le_two_pow (hg : 9 ≤ g) : (512 : Int) ≤ 2 ^ g :=
  pow_le_pow_right₀ (a := (2 : Int)) (by decide) hg

/-- A shift by 9 or more leaves nothing of a raw sample but its sign (R102). -/
theorem asr_eq_zero (hg : 9 ≤ g) (h₀ : 0 ≤ raw) (h₁ : raw ≤ 511) : asr raw g = 0 := by
  have := raw_bound_le_two_pow hg
  exact asr_eq_iff.mpr (by omega)

theorem asr_eq_neg_one (hg : 9 ≤ g) (h₀ : -512 ≤ raw) (h₁ : raw < 0) : asr raw g = -1 := by
  have := raw_bound_le_two_pow hg
  exact asr_eq_iff.mpr (by omega)

/-- A raw sample shifted by 2 or more fits the signed byte (R102). -/
theorem asr_raw_bounds (hg : 2 ≤ g) (h₀ : -512 ≤ raw) (h₁ : raw ≤ 511) :
    -128 ≤ asr raw g ∧ asr raw g ≤ 127 := by
  have hpow : (4 : Int) ≤ 2 ^ g := pow_le_pow_right₀ (a := (2 : Int)) (by decide) hg
  have hlo : -128 ≤ asr raw g := le_asr_iff.mpr (by omega)
  have hhi : asr raw g < 128 := asr_lt_iff.mpr (by omega)
  omega

/-! #### The clamp -/

theorem attenuate_bounds (raw : Int) (g : Nat) : -128 ≤ attenuate raw g ∧ attenuate raw g ≤ 127 := by
  unfold attenuate clamp
  omega

/-- The clamp is not active on a value that fits the signed byte. -/
theorem attenuate_of_asr_eq (hq : asr raw g = q) (h₀ : -128 ≤ q) (h₁ : q ≤ 127) : attenuate raw g = q := by
  unfold attenuate clamp
  omega

/-- The clamp keeps the sign. -/
theorem attenuate_neg_iff : attenuate raw g < 0 ↔ raw < 0 := by
  have hsign : asr raw g < 0 ↔ raw < 0 := by rw [asr_lt_iff, zero_mul]
  rw [← hsign]
  unfold attenuate clamp
  omega

/-- A value in the range of the signed byte is stored without loss (R9, R11). -/
theorem toInt_ofInt_byte (h₀ : -128 ≤ v) (h₁ : v ≤ 127) : (BitVec.ofInt 8 v).toInt = v :=
  BitVec.toInt_ofInt_eq_self (by decide) h₀ (Int.lt_add_one_of_le h₁)

theorem attenuatedByte_toInt (adc : AdcCode) (gain : Byte) :
    (attenuatedByte adc gain).toInt = attenuate (rawSample adc) gain.toNat :=
  toInt_ofInt_byte (attenuate_bounds _ _).1 (attenuate_bounds _ _).2

theorem rawSample_bounds (adc : AdcCode) : -512 ≤ rawSample adc ∧ rawSample adc ≤ 511 := by
  have := adc.isLt
  unfold rawSample adcMid
  omega

/-- Settles O22: the quotient is the floor shift, and the stored byte holds its clamp. -/
theorem attenuationFormula : Obligations.AttenuationFormula := by
  intro adc gain
  obtain ⟨hlo, hhi⟩ := rawSample_bounds adc
  obtain ⟨hle, hlt⟩ := asr_eq_iff.mp (rfl : asr (rawSample adc) gain.toNat = _)
  exact ⟨hlo, hhi, rfl, asr (rawSample adc) gain.toNat, hle, hlt, attenuatedByte_toInt adc gain⟩

/-- Settles O23: the listed values by evaluation, the clauses over all gains by the bounds of the floor shift. -/
theorem attenuationCorners : Obligations.AttenuationCorners := by
  have hzero (raw : Int) : attenuate raw 0 = min 127 (max (-128) raw) := by
    rw [attenuate, clamp, asr, pow_zero, Int.ediv_one]
  refine ⟨hzero, by decide, by decide, by decide, by decide, by decide, by decide, by decide, by decide,
    fun g => attenuate_of_asr_eq (asr_neg_one g) (by decide) (by decide),
    fun raw g h => attenuate_neg_iff.mpr h,
    fun raw g hg h₀ h₁ => attenuate_of_asr_eq (asr_eq_zero hg h₀ h₁) (by decide) (by decide),
    fun raw g hg h₀ h₁ => attenuate_of_asr_eq (asr_eq_neg_one hg h₀ h₁) (by decide) (by decide),
    fun raw g hg h₀ h₁ => ?_⟩
  obtain ⟨hlo, hhi⟩ := asr_raw_bounds hg h₀ h₁
  exact ⟨hlo, hhi, attenuate_of_asr_eq rfl hlo hhi⟩

end Sys2Proof.Machine
end

section
/-!
PROOFS. The DC filter over the ring (40_capture.md R103 to R107, R114): bounds of the sum, the bias, the peak-to-peak
value and the difference, and the sum after a ring write.
-/

namespace Sys2Proof.Machine

variable {r : Vector Byte 32} {pos : Fin 32} {lo hi : Int}

/-! #### The sum -/

theorem le_ringSum (h : ∀ j : Fin 32, lo ≤ r[j].toInt) : 32 * lo ≤ ringSum r := by
  simpa [ringSum_eq_sum] using Finset.card_nsmul_le_sum Finset.univ (fun j : Fin 32 => r[j].toInt) lo fun j _ => h j

theorem ringSum_le (h : ∀ j : Fin 32, r[j].toInt ≤ hi) : ringSum r ≤ 32 * hi := by
  simpa [ringSum_eq_sum] using Finset.sum_le_card_nsmul Finset.univ (fun j : Fin 32 => r[j].toInt) hi fun j _ => h j

/-- A ring write adds the new entry to the sum and takes the overwritten one away (R114). -/
theorem ringSum_set (r : Vector Byte 32) (p : Fin 32) (a : Byte) :
    ringSum (r.set p a) = ringSum r - r[p].toInt + a.toInt := by
  have hentry (j : Fin 32) : (r.set p a)[j].toInt = r[j].toInt + if j = p then a.toInt - r[p].toInt else 0 := by
    rw [getElem_set_fin]
    split_ifs with hj
    · rw [hj]; ring
    · rw [add_zero]
  simp only [ringSum_eq_sum, hentry, Finset.sum_add_distrib, Finset.sum_ite_eq', Finset.mem_univ, if_true]
  ring

/-! #### The minimum and the maximum -/

theorem ringMin_bounds (r : Vector Byte 32) : -128 ≤ ringMin r ∧ ringMin r ≤ 127 := by
  obtain ⟨j, hj⟩ := ringMin_attained r
  exact hj ▸ byte_toInt_bounds r[j]

theorem ringMax_bounds (r : Vector Byte 32) : -128 ≤ ringMax r ∧ ringMax r ≤ 127 := by
  obtain ⟨j, hj⟩ := ringMax_attained r
  exact hj ▸ byte_toInt_bounds r[j]

/-- Settles O24: the scan's lemmas, with each byte's bounds summed over the 32 entries. -/
theorem ringScan : Obligations.RingScan := by
  intro r
  obtain ⟨hmn, hmn'⟩ := ringMin_bounds r
  obtain ⟨hmx, hmx'⟩ := ringMax_bounds r
  exact ⟨ringSum_eq_sum r,
    le_ringSum fun j => (byte_toInt_bounds r[j]).1, ringSum_le fun j => (byte_toInt_bounds r[j]).2,
    ringMin_le r, ringMin_attained r, hmn, hmn', le_ringMax r, ringMax_attained r, hmx, hmx'⟩

/-! #### The bias, the peak-to-peak value and the difference -/

/-- The bias is the floor of the mean (R104). -/
theorem ringBias_floor (r : Vector Byte 32) : ringBias r * 32 ≤ ringSum r ∧ ringSum r < (ringBias r + 1) * 32 :=
  asr_eq_iff.mp rfl

/-- The bias lies between any bounds of the entries, since the mean does. -/
theorem ringBias_bounds (hlo : ∀ j : Fin 32, lo ≤ r[j].toInt) (hhi : ∀ j : Fin 32, r[j].toInt ≤ hi) :
    lo ≤ ringBias r ∧ ringBias r ≤ hi := by
  have := ringBias_floor r
  have := le_ringSum hlo
  have := ringSum_le hhi
  omega

/-- The peak-to-peak value is at least the difference of any two entries (R105). -/
theorem sub_le_ringPtp (r : Vector Byte 32) (i j : Fin 32) : r[i].toInt - r[j].toInt ≤ ringPtp r :=
  sub_le_sub (le_ringMax r i) (ringMin_le r j)

theorem ringPtp_bounds (r : Vector Byte 32) : 0 ≤ ringPtp r ∧ ringPtp r ≤ 255 := by
  obtain ⟨hmn, -⟩ := ringMin_bounds r
  obtain ⟨-, hmx⟩ := ringMax_bounds r
  refine ⟨by simpa using sub_le_ringPtp r 0 0, ?_⟩
  unfold ringPtp
  omega

/-- The peak-to-peak value is stored without loss (R105). -/
theorem ptpByte_toNat (r : Vector Byte 32) : ((ptpByte r).toNat : Int) = ringPtp r := by
  have := ringPtp_bounds r
  rw [ptpByte, BitVec.toNat_ofInt]
  omega

/-- The difference is bounded by the peak-to-peak value, as both its terms lie between the minimum and the
maximum (R106). -/
theorem dcDifference_bounds (r : Vector Byte 32) (pos : Fin 32) :
    -ringPtp r ≤ dcDifference r pos ∧ dcDifference r pos ≤ ringPtp r := by
  have hbias := ringBias_bounds (ringMin_le r) (le_ringMax r)
  have hmn := ringMin_le r pos
  have hmx := le_ringMax r pos
  unfold ringPtp dcDifference
  omega

/-- Settles O25, from the bounds of the bias, the peak-to-peak value and the difference. -/
theorem dcFilterBounds : Obligations.DcFilterBounds := by
  intro r pos
  obtain ⟨hfloor, hfloor'⟩ := ringBias_floor r
  obtain ⟨hmn, hmx⟩ := ringBias_bounds (ringMin_le r) (le_ringMax r)
  obtain ⟨hptp, hptp'⟩ := ringPtp_bounds r
  obtain ⟨hdiff, hdiff'⟩ := dcDifference_bounds r pos
  exact ⟨hfloor, hfloor', hmn, hmx, hptp, hptp', ptpByte_toNat r, rfl, hdiff, hdiff', by omega, by omega⟩

/-- Settles O26: the byte holds the balanced remainder of the difference modulo 256, and the difference lies within
`ptp ≤ 255` of 0, so at most one wrap is needed. -/
theorem conditionedSampleWraps : Obligations.ConditionedSampleWraps := by
  intro r pos
  have hptp := ringPtp_bounds r
  have hdiff := dcDifference_bounds r pos
  have hbyte : (condByte r pos).toInt = (dcDifference r pos).bmod 256 := BitVec.toInt_ofInt _
  rw [Int.bmod_def] at hbyte
  exact ⟨toInt_ofInt_byte, fun h => ⟨by omega, by omega⟩, fun h => ⟨by omega, by omega⟩⟩

/-- A ring of equal entries has their value as its bias, and neither spread nor difference (R113 (a)). -/
theorem dcFilter_of_constant {c : Byte} (h : ∀ j : Fin 32, r[j] = c) :
    ringBias r = c.toInt ∧ ptpByte r = 0 ∧ condByte r pos = 0 := by
  obtain ⟨hlo, hhi⟩ := ringBias_bounds (r := r) (fun j => (congrArg _ (h j)).ge) fun j => (congrArg _ (h j)).le
  have hbias : ringBias r = c.toInt := le_antisymm hhi hlo
  have hptp : ringPtp r = 0 := by
    obtain ⟨i, hi⟩ := ringMin_attained r
    obtain ⟨j, hj⟩ := ringMax_attained r
    rw [ringPtp, ← hi, ← hj, h, h, sub_self]
  have hdiff : dcDifference r pos = 0 := by rw [dcDifference, h, hbias, sub_self]
  exact ⟨hbias, by rw [ptpByte, hptp]; rfl, by rw [condByte, hdiff]; rfl⟩

end Sys2Proof.Machine
end

section
/-!
PROOFS. One SAMPLE (40_capture.md R100, R108 to R111, R114): its gate, what an accepted one writes, and the carrier.
-/

namespace Sys2Proof.Machine

variable {s : State} {adc : AdcCode}

theorem exec_sample_of_accepting (hrun : s.fatal = false) (ha : s.adcEn = true) :
    exec (.sample adc) s = .next (s.acceptSample adc) := by
  rw [exec_sample, State.unlessHalted_of_running hrun, ha, if_pos rfl]

/-- A SAMPLE outside its gate changes nothing (R100). -/
theorem exec_sample_of_not_accepting (h : s.fatal = true ∨ s.adcEn = false) : exec (.sample adc) s = .next s := by
  rw [exec_sample, State.unlessHalted_ite, if_neg]
  rintro ⟨hrun, ha⟩
  simp [hrun, ha] at h

/-- Settles O21: MODE is neither in the gate nor read or written by an accepted SAMPLE. -/
theorem sampleGate : Obligations.SampleGate := by
  refine ⟨fun s adc h => exec_sample_of_not_accepting h, fun s t adc m h => ?_⟩
  by_cases hgate : s.fatal = false ∧ s.adcEn = true
  · obtain ⟨hrun, ha⟩ := hgate
    rw [exec_sample_of_accepting hrun ha] at h
    cases h
    exact exec_sample_of_accepting (s := { s with mode := m }) hrun ha
  · have hclosed : s.fatal = true ∨ s.adcEn = false := by
      rwa [not_and_or, Bool.not_eq_false, Bool.not_eq_true] at hgate
    rw [exec_sample_of_not_accepting hclosed] at h
    cases h
    exact exec_sample_of_not_accepting (s := { s with mode := m }) hclosed

/-- The squelch comparison on the exact peak-to-peak value (R108). -/
theorem carrierFor_ptpByte (r : Vector Byte 32) (thresh : Byte) :
    carrierFor (ptpByte r) thresh = decide ((thresh.toNat : Int) ≤ ringPtp r) := by
  simp only [carrierFor, ← ptpByte_toNat, Nat.cast_le]

/-- The carrier that an accepted SAMPLE writes (R108). -/
theorem State.acceptSample_carrier (s : State) (adc : AdcCode) :
    (s.acceptSample adc).carrier = decide ((s.thresh.toNat : Int) ≤ ringPtp s.ring) :=
  carrierFor_ptpByte s.ring s.thresh

/-- Settles O20, with the scan's minimum and maximum. -/
theorem sampleAccepted : Obligations.SampleAccepted := by
  intro s adc hrun ha
  refine ⟨ringMin s.ring, ringMax s.ring, fun j => ⟨ringMin_le s.ring j, le_ringMax s.ring j⟩,
    ringMin_attained s.ring, ringMax_attained s.ring, ?_⟩
  have hcar : decide ((s.thresh.toNat : Int) ≤ ringMax s.ring - ringMin s.ring) =
      carrierFor (ptpByte s.ring) s.thresh :=
    (carrierFor_ptpByte s.ring s.thresh).symm
  have hpos : s.pos + 1 = ⟨(s.pos.val + 1) % 32, Nat.mod_lt _ (by decide)⟩ := Fin.ext (fin32_succ_val s.pos)
  rw [exec_sample_of_accepting hrun ha, ← hpos, ← ringSum_eq_sum, hcar]
  rfl

/-- Settles O27: the carrier is the comparison of the ring's peak-to-peak value with THRESH, whose ends are the ends of
that value's range. -/
theorem carrierDecision : Obligations.CarrierDecision := by
  intro s adc hrun ha
  obtain ⟨hptp, hptp'⟩ := ringPtp_bounds s.ring
  have hcar : (s.acceptSample adc).carrier = true ↔ (s.thresh.toNat : Int) ≤ ringPtp s.ring := by
    rw [State.acceptSample_carrier, decide_eq_true_iff]
  refine ⟨_, exec_sample_of_accepting hrun ha, hcar, fun hth => ?_, fun hth => ?_, carrierTransition_iff _ _,
    fun c u hu => ?_⟩
  · rw [hcar, hth]
    exact hptp
  · rw [hcar, hth]
    exact ⟨fun h => le_antisymm hptp' h, fun h => h.ge⟩
  · rw [exec_sample_of_accepting (s := { s with carrier := c }) hrun ha] at hu
    cases hu
    rfl

/-- Settles O33: an accepted SAMPLE is one ring write at the cursor. -/
theorem runningSumAgrees : Obligations.RunningSumAgrees := by
  intro s t adc hrun ha h
  rw [exec_sample_of_accepting hrun ha] at h
  cases h
  exact ringSum_set s.ring s.pos _

end Sys2Proof.Machine
end

section
/-!
PROOFS. What the window of accepted samples makes of the next output: the steady state (40_capture.md R113) and the
start-up after reset (R112).
-/

namespace Sys2Proof.Machine

variable {s : State} {c : Byte} {n : Nat}

/-! #### The window and the scan -/

theorem State.mem_window {b : Byte} : b ∈ s.window ↔ ∃ j : Fin 32, s.ring[j] = b := by
  rw [State.window, List.mem_ofFn]
  exact (Equiv.addLeft s.pos).surjective.exists (p := fun j => s.ring[j] = b) |>.symm

/-- The order of the entries does not matter to the sum, so the window gives it as well. -/
theorem State.sum_window (s : State) : (s.window.map BitVec.toInt).sum = ringSum s.ring := by
  rw [State.window, List.map_ofFn, List.sum_ofFn, ringSum_eq_sum]
  exact Equiv.sum_comp (Equiv.addLeft s.pos) fun j => s.ring[j].toInt

/-- The window's first entry is the one at the cursor (R22). -/
theorem State.head_window (s : State) : s.window.getD 0 0 = s.ring[s.pos] := by
  simpa using s.window_getD 0

/-- A window slid by at least 32 equal samples holds nothing else (R113 (a)). -/
theorem slide_replicate {w : List Byte} (hw : w.length = 32) (hn : 32 ≤ n) :
    slide w (List.replicate n c) = List.replicate 32 c := by
  rw [slide, List.length_replicate, List.drop_append, List.drop_of_length_le (by omega), List.nil_append,
    List.drop_replicate, hw]
  congr 1
  omega

/-! #### The steady state -/

theorem ring_constant_of_window (h : s.window = List.replicate 32 c) (j : Fin 32) : s.ring[j] = c :=
  List.eq_of_mem_replicate (h ▸ State.mem_window.mpr ⟨j, rfl⟩)

/-- Settles O31: after 32 equal samples every ring entry is their value. -/
theorem constantInputSettles : Obligations.ConstantInputSettles := by
  intro k n c s t adc hn h hacc h32 hrun ha
  have hwin : t.window = List.replicate 32 c := by
    rw [windowSlides k s t hn h, hacc]
    exact slide_replicate s.window_length h32
  obtain ⟨hbias, hptp, hcond⟩ := dcFilter_of_constant (pos := t.pos) (ring_constant_of_window hwin)
  exact ⟨hbias, _, exec_sample_of_accepting hrun ha, hptp, hcond, hcond⟩

/-! #### The start-up -/

/-- Before the 32nd sample the window is the fill entries left and then the samples (R112). -/
theorem slide_fill_of_length_lt {as : List Byte} (h : as.length < 32) :
    slide (List.replicate 32 ringFill) as = List.replicate (32 - as.length) ringFill ++ as := by
  rw [slide, List.drop_append_of_le_length (by simpa using h.le), List.drop_replicate]

/-- While the ring still holds a fill entry, the peak-to-peak value spans from it to any sample (R112). -/
theorem add_le_ringPtp_of_startUp {as : List Byte} (hwin : s.window = slide (List.replicate 32 ringFill) as)
    (hlt : as.length < 32) {x : Byte} (hx : x ∈ as) : x.toInt + 128 ≤ ringPtp s.ring := by
  rw [slide_fill_of_length_lt hlt] at hwin
  have hfill : ringFill ∈ s.window := by
    rw [hwin]
    exact List.mem_append_left _ (List.mem_replicate.mpr ⟨by omega, rfl⟩)
  obtain ⟨i, rfl⟩ := State.mem_window.mp (hwin ▸ List.mem_append_right _ hx)
  obtain ⟨j, hj⟩ := State.mem_window.mp hfill
  have hspan := sub_le_ringPtp s.ring i j
  rw [hj] at hspan
  exact hspan

/-- The difference with `n` mid-scale samples in the ring and the fill in the other places (R112): the bias is the mean
`-128 + 4n`, and the entry at the cursor is still a fill. -/
theorem dcDifference_of_startUp (hwin : s.window = slide (List.replicate 32 ringFill) (List.replicate n 0))
    (hlt : n < 32) : dcDifference s.ring s.pos = -4 * (n : Int) := by
  rw [slide_fill_of_length_lt (by simpa using hlt), List.length_replicate] at hwin
  have hfill : ringFill.toInt = -128 := rfl
  have holdest : s.ring[s.pos].toInt = -128 := by
    rw [← s.head_window, hwin, List.getD_append _ _ _ _ (by simpa using hlt), List.getD_replicate _ (by omega), hfill]
  have hsum : ringSum s.ring = ((32 - n : Nat) : Int) * -128 := by
    rw [← s.sum_window, hwin]
    simp [hfill]
  have hbias := ringBias_floor s.ring
  rw [dcDifference, holdest]
  omega

/-- Settles O32: the window is the fill's window slid by the accepted samples, so it is fill entries and then samples
before the 32nd of them, and the last 32 samples from then on. -/
theorem startUpTransient : Obligations.StartUpTransient := by
  intro p st ins k t hn h a
  have hwin : t.window = slide (List.replicate 32 ringFill) a := by
    rw [windowSlides k _ t hn h, State.afterReset_window]
    rfl
  refine ⟨fun hlt x hx => add_le_ringPtp_of_startUp hwin hlt hx, fun n hzeros adc hrun ha => ?_⟩
  rw [hzeros] at hwin
  refine ⟨_, exec_sample_of_accepting hrun ha, fun hlt => ?_, fun hge => ?_, fun hpos hlt hth => ?_⟩
  · have hdiff := dcDifference_of_startUp hwin hlt
    rw [← hdiff]
    exact toInt_ofInt_byte (by omega) (by omega)
  · rw [slide_replicate List.length_replicate hge] at hwin
    obtain ⟨-, hptp, hcond⟩ := dcFilter_of_constant (pos := t.pos) (ring_constant_of_window hwin)
    exact ⟨hcond, hptp⟩
  · have hptp : 128 ≤ ringPtp t.ring :=
      add_le_ringPtp_of_startUp hwin (by simpa using hlt) (List.mem_replicate.mpr ⟨by omega, rfl⟩)
    rw [State.acceptSample_carrier, decide_eq_true_iff]
    omega

end Sys2Proof.Machine
end

section
/-!
PROOFS. TICK and the two transmit strategies (41_transmit.md R140 to R142, R145, R146).
-/

namespace Sys2Proof.Machine

variable {s t : State} {b : Byte}

theorem exec_sample_eq_onSample (adc : AdcCode) (s : State) : exec (.sample adc) s = .next (s.onSample adc) := by
  rw [exec_sample, State.unlessHalted_ite, State.onSample]

theorem exec_tick_eq_onTick (b : Byte) (s : State) : exec (.tick b) s = .next (s.onTick b) := by
  rw [exec_tick, State.unlessHalted_ite, State.onTick]

theorem exec_tick_of_accepting (hrun : s.fatal = false) (hout : s.outEn = true) :
    exec (.tick b) s = .next (s.acceptTick b) := by
  rw [exec_tick_eq_onTick, State.onTick, if_pos ⟨hrun, hout⟩]

/-- Settles O34: behind an open gate, TICK is the write of R141. -/
theorem tickWritesDuty : Obligations.TickWritesDuty := by
  intro s b hrun hout hstrat
  rw [exec_tick_of_accepting hrun hout, State.acceptTick_of_pulseWidth b hstrat]

/-- TICK's write of PORT, bit by bit (R142). -/
theorem portFromTick_getLsbD (mask port byte : Byte) {j : Nat} (hj : j < 8) :
    (portFromTick mask port byte).getLsbD j = if mask.getLsbD j then byte.getLsbD j else port.getLsbD j := by
  simp only [BitVec.getLsbD_eq_getElem hj]
  cases hm : mask[j] <;> simp [portFromTick, hm]

/-- Settles O35: the byte written is `portFromTick`. -/
theorem tickWritesDacBits : Obligations.TickWritesDacBits := by
  intro s b hrun hout hstrat
  refine ⟨portFromTick s.params.dacMask s.port b, ?_, fun j hj => portFromTick_getLsbD _ _ _ hj⟩
  rw [exec_tick_of_accepting hrun hout, State.acceptTick_of_compareMatch b hstrat]

/-- A TICK outside its gate changes nothing (R140). -/
theorem exec_tick_of_not_accepting (h : s.fatal = true ∨ s.outEn = false) : exec (.tick b) s = .next s := by
  rw [exec_tick_eq_onTick, State.onTick, if_neg]
  rintro ⟨hrun, hout⟩
  simp [hrun, hout] at h

/-- OUT_EN is 1 exactly while transmitting (R40 (b)). -/
theorem State.Consistent.outEn_iff (hs : s.Consistent) : s.outEn = true ↔ s.mode = .transmitting := by
  rw [hs.outEnIsMode]
  cases s.mode <;> decide

/-- Settles O36. -/
theorem tickGate : Obligations.TickGate :=
  ⟨fun _ _ h => exec_tick_of_not_accepting h, fun _ hs => hs.outEn_iff⟩

/-- Settles O38: TICK after SAMPLE and SAMPLE after TICK are the two orders of `State.onTick_onSample`. -/
theorem sampleTickCommute : Obligations.SampleTickCommute := by
  intro s s₁ s₂ t₁ t₂ adc b hs₁ ht₁ hs₂ ht₂
  rw [exec_sample_eq_onSample] at hs₁ ht₂
  rw [exec_tick_eq_onTick] at ht₁ hs₂
  cases hs₁; cases ht₁; cases hs₂; cases ht₂
  exact s.onTick_onSample adc b

/-- Under the pulse-width strategy a TICK, accepted or not, leaves every bit of PORT (R146). -/
theorem State.onTick_port_of_pulseWidth (hstrat : s.strat = .pulseWidth) : (s.onTick b).port = s.port := by
  rw [State.onTick, State.acceptTick_of_pulseWidth b hstrat]
  split <;> rfl

/-- A cycle without reset keeps STRAT, under pulse-width the DAC_MASK bits of PORT, and under compare-match DUTY: the
writers of those bits work under the other strategy only (R146). -/
theorem step_strategy (hr : s.pins.rst = false) (h : step s = .next t) :
    t.strat = s.strat ∧
    (s.strat = .pulseWidth → t.port &&& s.params.dacMask = s.port &&& s.params.dacMask) ∧
    (s.strat = .compareMatch → t.duty = s.duty) := by
  obtain ⟨-, rfl⟩ | ⟨-, he⟩ := step_effect hr h
  · exact ⟨rfl, fun _ => rfl, fun _ => rfl⟩
  · refine ⟨he.strat_params.1, fun hpw => ?_, fun hcm => ?_⟩
    · exact he.dacBits_writer.resolve_right fun ⟨_, _, hcm⟩ => nomatch hpw.symm.trans hcm
    · exact he.duty_writer.resolve_right fun ⟨_, _, hpw⟩ => nomatch hcm.symm.trans hpw

/-- What keeps DUTY at its reset value along a run: no reset is to come and STRAT is compare-match. -/
structure State.DutyAtReset (s : State) : Prop where
  noReset : s.noReset = true
  strat : s.strat = .compareMatch
  duty : s.duty = 0x80

theorem State.DutyAtReset.step (hs : s.DutyAtReset) (h : step s = .next t) : t.DutyAtReset := by
  obtain ⟨hstrat, -, hduty⟩ := step_strategy (pins_rst_of_noReset hs.noReset) h
  exact ⟨noReset_of_step hs.noReset h, hstrat.trans hs.strat, (hduty hs.strat).trans hs.duty⟩

/-- Settles O37: the step clause is `step_strategy`, and by induction over the run so is DUTY's reset value. -/
theorem strategiesExclusive : Obligations.StrategiesExclusive := by
  refine ⟨fun s t hr h => step_strategy hr h, fun s t b hpw h => ?_, fun p ins k t hn h => ?_⟩
  · rw [exec_tick_eq_onTick] at h
    cases h
    exact State.onTick_port_of_pulseWidth hpw
  · exact (run_induction (fun _ _ hs hu => hs.step hu) k _ t ⟨hn, rfl, rfl⟩ h : t.DutyAtReset).duty

end Sys2Proof.Machine
end

section
/-!
PROOFS. START_TX and STOP_TX (42_ptt_control.md R160 to R164): accepted, misused, and the state machine's table.
-/

namespace Sys2Proof.Machine

variable {s : State}

/-! #### Accepted and out of order -/

theorem exec_startTx_of_accepting (hrun : s.fatal = false) (hi : s.inited = true) (hm : s.mode = .receiving) :
    exec .startTx s = .next s.keyTransmitter := by
  rw [exec_startTx, State.unlessHalted_of_running hrun, if_pos ⟨hi, hm⟩]

theorem exec_startTx_of_misused (hrun : s.fatal = false) (hmis : ¬ (s.inited = true ∧ s.mode = .receiving)) :
    exec .startTx s = .next (s.setFlag .protoErr) := by
  rw [exec_startTx, State.unlessHalted_of_running hrun, if_neg hmis]

theorem exec_stopTx_of_accepting (hrun : s.fatal = false) (hi : s.inited = true) (hm : s.mode = .transmitting) :
    exec .stopTx s = .next s.unkeyTransmitter := by
  rw [exec_stopTx, State.unlessHalted_of_running hrun, if_pos ⟨hi, hm⟩]

theorem exec_stopTx_of_misused (hrun : s.fatal = false) (hmis : ¬ (s.inited = true ∧ s.mode = .transmitting)) :
    exec .stopTx s = .next (s.setFlag .protoErr) := by
  rw [exec_stopTx, State.unlessHalted_of_running hrun, if_neg hmis]

/-- Settles O40: an accepted START_TX is `State.keyTransmitter`. -/
theorem startTxAccepted : Obligations.StartTxAccepted := by
  intro s hrun hi hm
  rw [exec_startTx_of_accepting hrun hi hm, ← State.keyTransmitter_adcEn]
  rfl

/-- Settles O41: an accepted STOP_TX is `State.unkeyTransmitter`. -/
theorem stopTxAccepted : Obligations.StopTxAccepted := fun _ => exec_stopTx_of_accepting

/-- Settles O42: a command out of order records PROTO_ERR. -/
theorem commandMisuse : Obligations.CommandMisuse := by
  refine ⟨fun s hrun hmis => exec_startTx_of_misused hrun ?_, fun s hrun hmis => exec_stopTx_of_misused hrun ?_⟩
  all_goals
    rintro ⟨hi, hm⟩
    simp [hi, hm] at hmis

/-! #### The state machine's table -/

/-- ADC_EN is 1 exactly when the block is initialized and not transmitting under pulse-width (R40 (d)). -/
theorem State.Consistent.adcEn_iff (hs : s.Consistent) :
    s.adcEn = true ↔ s.inited = true ∧ (s.mode = .receiving ∨ s.strat = .compareMatch) := by
  rw [hs.adcEnIs]
  cases s.mode <;> cases s.strat <;> simp

/-- An initialized block is not halted (R40 (e)). -/
theorem State.Consistent.running_of_inited (hs : s.Consistent) (hi : s.inited = true) : s.fatal = false := by
  cases hf : s.fatal with
  | false => rfl
  | true => simpa [hi] using (hs.fatalIdle hf).1

/-- START_TX from receiving leaves sampling on exactly under the compare-match strategy (R160, R164). -/
theorem State.Consistent.keyTransmitter_adcEn (hs : s.Consistent) (hi : s.inited = true) (hm : s.mode = .receiving) :
    s.keyTransmitter.adcEn = decide (s.strat = .compareMatch) := by
  rw [State.keyTransmitter_adcEn, hs.adcEn_iff.mpr ⟨hi, .inl hm⟩]
  cases s.strat <;> rfl

/-- START_TX's part of the table (R164). -/
theorem State.Consistent.exec_startTx_row (hs : s.Consistent) (hrun : s.fatal = false) :
    ∃ a, exec .startTx s = .next a ∧ (a.mode, a.ptt, a.adcEn, a.outEn, a.protoErr) =
      (if s.inited = true ∧ s.mode = .receiving
       then (Mode.transmitting, true, decide (s.strat = .compareMatch), true, s.protoErr)
       else (s.mode, s.ptt, s.adcEn, s.outEn, true)) := by
  split_ifs with hc
  · obtain ⟨hi, hm⟩ := hc
    exact ⟨_, exec_startTx_of_accepting hrun hi hm, by rw [hs.keyTransmitter_adcEn hi hm]; rfl⟩
  · exact ⟨_, exec_startTx_of_misused hrun hc, rfl⟩

/-- STOP_TX's part of the table (R164). -/
theorem exec_stopTx_row (hrun : s.fatal = false) :
    ∃ z, exec .stopTx s = .next z ∧ (z.mode, z.ptt, z.adcEn, z.outEn, z.protoErr) =
      (if s.inited = true ∧ s.mode = .transmitting
       then (Mode.receiving, false, true, false, s.protoErr)
       else (s.mode, s.ptt, s.adcEn, s.outEn, true)) := by
  split_ifs with hc
  · obtain ⟨hi, hm⟩ := hc
    exact ⟨_, exec_stopTx_of_accepting hrun hi hm, rfl⟩
  · exact ⟨_, exec_stopTx_of_misused hrun hc, rfl⟩

/-- Settles O43: the two commands' parts of the table, and an uninitialized block is idle. -/
theorem pttStateTable : Obligations.PttStateTable := by
  intro s hs hrun
  obtain ⟨a, ha, harow⟩ := hs.exec_startTx_row hrun
  obtain ⟨z, hz, hzrow⟩ := exec_stopTx_row hrun
  refine ⟨a, z, ha, hz, fun hi => ?_, harow, hzrow⟩
  obtain ⟨hm, hadc, hout⟩ := hs.idle_of_not_inited hi
  exact ⟨hm, by rw [hs.pttIsMode, hm]; rfl, hadc, hout⟩

end Sys2Proof.Machine
end

section
/-!
PROOFS. Transmitting against receiving (42_ptt_control.md R165; 40_capture.md R116): under the pulse-width strategy the
block stays transmitting, its capture path at rest, until a STOP_TX word.
-/

namespace Sys2Proof.Machine

variable {s t u : State} {d : Decoded} {w : OpWord}

/-! #### Relating the ends of a run -/

theorem State.SameCapture.trans (h : s.SameCapture t) (h' : t.SameCapture u) : s.SameCapture u where
  ring := h'.ring.trans h.ring
  pos := h'.pos.trans h.pos
  ptp := h'.ptp.trans h.ptp
  cond := h'.cond.trans h.cond
  carrier := h'.carrier.trans h.carrier
  condValid := h'.condValid.trans h.condValid
  condOut := h'.condOut.trans h.condOut
  carrierEdge := h'.carrierEdge.trans h.carrierEdge

/-- A cycle without reset takes one cycle's pins. -/
theorem step_inputs (hr : s.pins.rst = false) (h : step s = .next t) : t.inputs = s.inputs.tail := by
  obtain ⟨-, rfl⟩ | ⟨-, he⟩ := step_effect hr h
  · rfl
  · exact he.inputs_eq

theorem neverPresents_of_step (hn : s.neverPresents w = true) (hr : s.pins.rst = false) (h : step s = .next t) :
    t.neverPresents w = true :=
  List.all_eq_true.mpr fun p hp => List.all_eq_true.mp hn p (List.mem_of_mem_tail (step_inputs hr h ▸ hp))

theorem opWord_ne_of_neverPresents (hn : s.neverPresents w = true) (hv : s.pins.opValid = true) :
    s.pins.opWord ≠ w := by
  cases hin : s.inputs with
  | nil => simp [State.pins_of_nil hin, PinsIn.idle] at hv
  | cons p rest =>
    rw [State.pins_of_cons hin] at hv ⊢
    simpa [hv] using List.all_eq_true.mp hn p (by simp [hin])

/-! #### One cycle while transmitting -/

/-- Only STOP_TX leaves Transmitting (R162, R164). -/
theorem Effect.keeps_transmitting (h : Effect s d t) (hm : s.mode = .transmitting) (hd : d ≠ .op .stopTx) :
    t.mode = .transmitting := by
  cases h with
  | keyed => rfl
  | unkeyed => exact absurd rfl hd
  | _ => exact hm

/-- What lasts from START_TX to the next STOP_TX under the pulse-width strategy: the block is transmitting and no
STOP_TX is to come. -/
structure State.HeldTransmitting (s : State) : Prop where
  consistent : s.Consistent
  strat : s.strat = .pulseWidth
  mode : s.mode = .transmitting
  noStop : s.neverPresents 0x3002 = true

theorem State.HeldTransmitting.adcEn (hs : s.HeldTransmitting) : s.adcEn = false := by
  simp [hs.consistent.adcEnIs, hs.mode, hs.strat]

theorem State.HeldTransmitting.step (hs : s.HeldTransmitting) (hr : s.pins.rst = false) (h : step s = .next t) :
    t.HeldTransmitting where
  consistent := stepKeepsConsistent s t hs.consistent h
  strat := (step_strategy hr h).1.trans hs.strat
  mode := by
    obtain ⟨-, rfl⟩ | ⟨hv, he⟩ := step_effect hr h
    · exact hs.mode
    · exact he.keeps_transmitting hs.mode fun hd =>
        opWord_ne_of_neverPresents hs.noStop hv (encodeOfDecode _ _ hd).symm
  noStop := neverPresents_of_step hs.noStop hr h

/-- A cycle while ADC_EN is 0 accepts no sample and, its pulses aside, leaves the capture path alone (R100, R116). -/
theorem step_capture_of_not_sampling (ha : s.adcEn = false) (hr : s.pins.rst = false) (h : step s = .next t) :
    s.nextAccepted = none ∧ s.settled.SameCapture t.settled := by
  obtain ⟨-, ⟨-, -, -, ha', -⟩, -⟩ | ⟨-, hnext, hsame⟩ := step_capture hr h
  · simp [ha] at ha'
  · exact ⟨hnext, { hsame with condValid := rfl, carrierEdge := rfl }⟩

/-! #### A run while transmitting -/

/-- Nothing is accepted, nothing of the capture path changes and transmitting goes on, by induction over the run. -/
theorem State.HeldTransmitting.run : ∀ (k : Nat) (s t : State), s.noReset = true → core.run k s = .next t →
    s.HeldTransmitting → s.accepted k = [] ∧ t.HeldTransmitting ∧ s.settled.SameCapture t.settled := by
  refine run_accepted_induction
    (R := fun s as t => s.HeldTransmitting → as = [] ∧ t.HeldTransmitting ∧ s.settled.SameCapture t.settled)
    (fun s hs => ⟨rfl, hs, .refl _⟩) fun s u t as hr hu ih hs => ?_
  obtain ⟨hnext, hsame⟩ := step_capture_of_not_sampling hs.adcEn hr hu
  obtain ⟨has, ht, hsame'⟩ := ih (hs.step hr hu)
  exact ⟨by rw [hnext, has]; rfl, ht, hsame.trans hsame'⟩

/-- Settles O44: (a) is the run's induction and an accepted STOP_TX at its end; (b) and (c) read the enables off R40. -/
theorem transmitReceiveExclusion : Obligations.TransmitReceiveExclusion := by
  refine ⟨fun k s t hs hstrat hm hn hstop h => ?_, fun s adc hs hstrat hi => ?_, fun s b hs hm => ?_⟩
  · obtain ⟨hacc, ht, hsame⟩ := State.HeldTransmitting.run k s t hn h ⟨hs, hstrat, hm, hstop⟩
    have hi : t.inited = true := ht.consistent.modeInited ht.mode
    exact ⟨hacc, ht.mode, ht.adcEn, ht.consistent.outEn_iff.mpr ht.mode, hsame.ring, hsame.pos, hsame.ptp, hsame.cond,
      hsame.carrier, hsame.condOut, _,
      exec_stopTx_of_accepting (ht.consistent.running_of_inited hi) hi ht.mode, rfl, hsame.ring, hsame.pos⟩
  · have hadc : s.adcEn = true := hs.adcEn_iff.mpr ⟨hi, .inr hstrat⟩
    exact ⟨_, exec_sample_of_accepting (hs.running_of_inited hi) hadc, rfl, fin32_succ_val s.pos⟩
  · have hout : s.outEn = false := by rw [hs.outEnIsMode, hm]; rfl
    exact exec_tick_of_not_accepting (.inr hout)

end Sys2Proof.Machine
end

section
/-!
PROOFS. What one cycle does (43_host_interface.md R180, R200 to R202): the operation its word decodes to, the effect of
an illegal word, or nothing.
-/

namespace Sys2Proof.Machine

variable {s : State} {p : PinsIn} {rest : List PinsIn}

/-- The beginning of a cycle whose pins are the head of the inputs (R45). -/
theorem State.beginCycle_of_cons (h : s.inputs = p :: rest) :
    s.beginCycle = { s with inputs := rest, rvalid := false, condValid := false, carrierEdge := false } := by
  rw [State.beginCycle, h, List.tail_cons]

/-- A cycle that presents a word, with its pins at the head of the inputs (R202). -/
theorem step_of_word_cons (h : s.inputs = p :: rest) (hr : p.rst = false) (hv : p.opValid = true) :
    step s = runWord p.opWord s.beginCycle := by
  have hp : s.pins = p := State.pins_of_cons h
  rw [step_of_word (by rw [hp, hr]) (by rw [hp, hv]), hp]

/-- Settles O8: the word's meaning is that of the operation it decodes to. -/
theorem stepRunsDecodedInstruction : Obligations.StepRunsDecodedInstruction := by
  intro s p rest i hin hr hv hd
  rw [step_of_word_cons hin hr hv, runWord_of_op hd, State.beginCycle_of_cons hin]

/-- An illegal word sets ILL_ERR behind the halted gate (R200, R214). -/
theorem State.unlessHalted_setFlag_illErr (s : State) :
    s.unlessHalted (s.setFlag .illErr) = { s with illErr := if s.fatal then s.illErr else true } := by
  unfold State.unlessHalted
  split <;> rfl

/-- Settles O9: both kinds set ILL_ERR behind the halted gate, and an ILLEGAL_READ is answered outside it. -/
theorem stepIllegalWords : Obligations.StepIllegalWords := by
  refine ⟨fun s p rest why hin hr hv hd => ?_, fun s p rest why hin hr hv hd => ?_⟩
  · rw [step_of_word_cons hin hr hv, runWord_of_illegal hd, State.unlessHalted_setFlag_illErr,
      State.beginCycle_of_cons hin]
  · rw [step_of_word_cons hin hr hv, runWord_of_illegalRead hd, State.unlessHalted_setFlag_illErr,
      State.beginCycle_of_cons hin]
    rfl

/-- Settles O10: past the end of the inputs, and with `op_valid` = 0, only the cycle's beginning happens. -/
theorem stepIdleCycle : Obligations.StepIdleCycle := by
  rintro s (hin | ⟨p, rest, hin, hr, hv⟩)
  · have hp : s.pins = .idle := State.pins_of_nil hin
    exact step_of_idle (by rw [hp]; rfl) (by rw [hp]; rfl)
  · have hp : s.pins = p := State.pins_of_cons hin
    exact step_of_idle (by rw [hp, hr]) (by rw [hp, hv])

/-- Every word answers a next state (R202). -/
theorem runWord_answers_next (w : OpWord) (s : State) : ∃ t, runWord w s = .next t := by
  cases hd : decode w with
  | op i => rw [runWord_of_op hd]; exact exec_answers_next i s
  | illegal why => exact ⟨_, runWord_of_illegal hd⟩
  | illegalRead why => exact ⟨_, runWord_of_illegalRead hd⟩

/-- Settles O12, by the kinds of cycle. -/
theorem stepTotal : Obligations.StepTotal := by
  intro s
  cases hr : s.pins.rst with
  | true => exact ⟨_, step_of_reset hr⟩
  | false =>
    cases hv : s.pins.opValid with
    | false => exact ⟨_, step_of_idle hr hv⟩
    | true => rw [step_of_word hr hv]; exact runWord_answers_next _ _

/-- Settles O45: the word 0x0000 is presented in a cycle like any other, and the other words of OPC 0x0 are class (b) of
the illegal words. -/
theorem nopChangesNothing : Obligations.NopChangesNothing := by
  refine ⟨exec_nop, fun s rest => ?_, fun w hne hlt => ?_⟩
  · exact stepRunsDecodedInstruction { s with inputs := PinsIn.word 0x0000 :: rest } _ rest .nop rfl rfl rfl
      (decodeOfEncode .nop)
  · obtain ⟨-, hnop, -⟩ := illegalWordClasses w
    have hpos : w.toNat ≠ 0 := fun h => hne (BitVec.eq_of_toNat_eq h)
    exact ⟨_, hnop.mpr ⟨Nat.div_eq_of_lt hlt, by rwa [Nat.mod_eq_of_lt hlt]⟩⟩

end Sys2Proof.Machine
end

section
/-!
PROOFS. The host's writes (43_host_interface.md R182 to R188): INIT, CLR_ERR, WR_GAIN, WR_THRESH and WR_PORT.
-/

namespace Sys2Proof.Machine

variable {s : State} {k : Byte}

/-! #### INIT -/

theorem exec_init_of_halted (hf : s.fatal = true) : exec (.init k) s = .next s := by
  rw [exec_init, State.unlessHalted_of_fatal hf]

/-- A later INIT is misuse, whatever its channel (R183). -/
theorem exec_init_of_inited (hrun : s.fatal = false) (hi : s.inited = true) :
    exec (.init k) s = .next (s.setFlag .protoErr) := by
  rw [exec_init, State.unlessHalted_of_running hrun, if_pos hi]

/-- The first INIT binds a supported channel (R182). -/
theorem exec_init_of_supported (hrun : s.fatal = false) (hi : s.inited = false)
    (hk : channelSupported k s.params = true) :
    exec (.init k) s = .next (s.bindChannel (channelField k)) := by
  rw [exec_init, State.unlessHalted_of_running hrun, if_neg (by simp [hi]), if_pos hk]

/-- The first INIT is fatal for an unsupported channel (R182). -/
theorem exec_init_of_unsupported (hrun : s.fatal = false) (hi : s.inited = false)
    (hk : channelSupported k s.params = false) :
    exec (.init k) s = .next (s.setFlag .fatal) := by
  rw [exec_init, State.unlessHalted_of_running hrun, if_neg (by simp [hi]), if_neg (by simp [hk])]

/-- A channel below 128 is stored whole (R182). -/
theorem channelField_toNat_of_lt (h : k.toNat < 128) : (channelField k).toNat = k.toNat := by
  simpa [channelField] using Nat.mod_eq_of_lt h

/-- Settles O46: NCHAN is at most 128, so a supported channel fits the seven bits of CHAN. -/
theorem initOutcomes : Obligations.InitOutcomes := by
  refine ⟨fun s chan hrun hi hlegal => ⟨fun hlt => ?_, fun hle => ?_⟩, fun s chan => exec_init_of_inited⟩
  · obtain ⟨-, hnchan, -⟩ := hlegal
    exact ⟨channelField chan, channelField_toNat_of_lt (hlt.trans_le hnchan),
      exec_init_of_supported hrun hi (decide_eq_true hlt)⟩
  · exact exec_init_of_unsupported hrun hi (decide_eq_false hle.not_gt)

/-! #### CLR_ERR and the register writes -/

/-- Settles O48: CLR_ERR is `State.clearErrors` behind the halted gate. -/
theorem clrErrClears : Obligations.ClrErrClears := by
  refine ⟨fun s hrun => ?_, fun s hf => ?_⟩
  · rw [exec_clrErr, State.unlessHalted_of_running hrun]
    rfl
  · rw [exec_clrErr, State.unlessHalted_of_fatal hf]

/-- Settles O49: the halted gate is open. -/
theorem writeGainThresh : Obligations.WriteGainThresh := by
  refine ⟨fun s v hrun => ?_, fun s v hrun => ?_⟩
  · rw [exec_wrGain, State.unlessHalted_of_running hrun]
  · rw [exec_wrThresh, State.unlessHalted_of_running hrun]

/-- The host's write of PORT, bit by bit (R188). -/
theorem portFromHost_getLsbD (mask port v : Byte) {j : Nat} (hj : j < 8) :
    (portFromHost mask port v).getLsbD j = if mask.getLsbD j then port.getLsbD j else v.getLsbD j := by
  simp only [BitVec.getLsbD_eq_getElem hj]
  cases hm : mask[j] <;> simp [portFromHost, hm]

/-- Settles O50: the byte written is `portFromHost`. -/
theorem writePort : Obligations.WritePort := by
  intro s v hrun
  refine ⟨portFromHost s.params.dacMask s.port v, ?_, fun j hj => portFromHost_getLsbD _ _ _ hj⟩
  rw [exec_wrPort, State.unlessHalted_of_running hrun]

end Sys2Proof.Machine
end

section
/-!
PROOFS. The host's reads (43_host_interface.md R189 to R199): whole registers, and the packed INITREG, STATUS and CONFIG
bit by bit (10_state.md R28, R36, R37).
-/

namespace Sys2Proof.Machine

/-- Settles O51: each read answers the register that the map of R76 has at its address. -/
theorem readsOfWholeRegisters : Obligations.ReadsOfWholeRegisters := by
  intro s
  obtain ⟨hcmd, -, hgain, hthresh, -, hptp, -, hduty, hport, hcond⟩ := exec_read s
  exact ⟨hcmd, hgain, hthresh, hptp, hduty, hport, hcond⟩

/-- INITED is bit 7 of INITREG, above CHAN (R37). -/
theorem State.initByte_toNat (s : State) : s.initByte.toNat = s.inited.toNat * 128 + s.chan.toNat := by
  rw [State.initByte, BitVec.toNat_append, BitVec.toNat_ofBool, ← Nat.shiftLeft_add_eq_or_of_lt s.chan.isLt,
    Nat.shiftLeft_eq]

/-- The bits of STATUS from bit 0 (R28). -/
theorem State.statusByte_getLsbD (s : State) :
    s.statusByte.getLsbD 0 = s.mode.bit ∧ s.statusByte.getLsbD 1 = s.carrier ∧ s.statusByte.getLsbD 2 = s.ptt ∧
    s.statusByte.getLsbD 3 = s.adcEn ∧ s.statusByte.getLsbD 4 = s.outEn ∧ s.statusByte.getLsbD 5 = s.protoErr ∧
    s.statusByte.getLsbD 6 = s.illErr ∧ s.statusByte.getLsbD 7 = s.fatal := by
  simp only [State.statusByte, BitVec.getLsbD_append]
  simp

theorem Mode.bit_eq_decide (m : Mode) : m.bit = decide (m = .transmitting) := by
  cases m <;> rfl

/-- STRAT is bit 0 of CONFIG, whose other bits are 0 (R36). -/
theorem State.configByte_toNat (s : State) : s.configByte.toNat = if s.strat = .compareMatch then 1 else 0 := by
  unfold State.configByte
  cases s.strat <;> rfl

/-- Settles O52, by the layouts of the three registers. -/
theorem readsOfPackedRegisters : Obligations.ReadsOfPackedRegisters := by
  intro s
  obtain ⟨-, hinit, -, -, hstatus, -, hconfig, -⟩ := exec_read s
  obtain ⟨hmode, hflags⟩ := s.statusByte_getLsbD
  obtain ⟨hcar, hptt, hadc, hout, hproto, hill, hfatal⟩ := hflags
  exact ⟨s.initByte, s.statusByte, s.configByte, hinit, hstatus, hconfig, s.initByte_toNat,
    hmode.trans s.mode.bit_eq_decide, hcar, hptt, hadc, hout, hproto, hill, hfatal, s.configByte_toNat⟩

end Sys2Proof.Machine
end

section
/-!
PROOFS. The bound channel decides nothing but itself and the read of INITREG (43_host_interface.md R181; 10_state.md
R37): two blocks that differ in CHAN alone go through the same cycle side by side.
-/

namespace Sys2Proof.Machine

variable {s t t' : State} {w : OpWord} {i : Instr} {k : Byte} {c : Channel}

/-- `s` with CHAN `c` in the place of its own. -/
def State.withChan (c : Channel) (s : State) : State := { s with chan := c }

/-! #### The shared operations -/

/-- The halted gate (R214) does not look at CHAN. -/
theorem State.unlessHalted_withChan (s after : State) (c : Channel) :
    (s.withChan c).unlessHalted (after.withChan c) = (s.unlessHalted after).withChan c :=
  (apply_ite (State.withChan c) _ s after).symm

theorem State.setFlag_withChan (s : State) (f : ErrorFlag) (c : Channel) :
    (s.withChan c).setFlag f = (s.setFlag f).withChan c := by
  cases f <;> rfl

theorem State.acceptTick_withChan (s : State) (b : Byte) (c : Channel) :
    (s.withChan c).acceptTick b = (s.acceptTick b).withChan c := by
  unfold State.acceptTick State.withChan
  cases s.strat <;> rfl

/-- A gated effect that does not look at CHAN is the same in a block with another CHAN. -/
theorem next_unlessHalted_withChan {after after' : State} (h : after' = after.withChan c) :
    (.next ((s.withChan c).unlessHalted after') : Result) = .next ((s.unlessHalted after).withChan c) := by
  rw [h, State.unlessHalted_withChan]

theorem ite_withChan {u u' : State} {q : Prop} [Decidable q] (ht : t' = t.withChan c) (hu : u' = u.withChan c) :
    (if q then t' else u') = (if q then t else u).withChan c := by
  rw [ht, hu, apply_ite (State.withChan c)]

/-! #### The operations -/

/-- An operation other than INIT and the read of INITREG does the same in a block with another CHAN (R181). -/
theorem exec_withChan (hinit : ∀ k, i ≠ .init k) (hread : i ≠ .rdInit) (h : exec i s = .next t) :
    exec i (s.withChan c) = .next (t.withChan c) := by
  cases i with
  | init k => exact absurd rfl (hinit k)
  | rdInit => exact absurd rfl hread
  | sample adc => cases h; exact next_unlessHalted_withChan (ite_withChan rfl rfl)
  | tick b => cases h; exact next_unlessHalted_withChan (ite_withChan (s.acceptTick_withChan b c) rfl)
  | startTx | stopTx => cases h; exact next_unlessHalted_withChan (ite_withChan rfl (s.setFlag_withChan _ c))
  | clrErr | wrGain | wrThresh | wrPort => cases h; exact next_unlessHalted_withChan rfl
  | nop | rdCmd | rdGain | rdThresh | rdStatus | rdPtp | rdConfig | rdDuty | rdPort | rdCond => cases h; rfl

/-- `t` is what a block in the state `s` becomes, and `t'` what the same block with CHAN `c` becomes: each holds its own
channel still and they differ in nothing else, or they are the same. -/
def State.StaysApart (s : State) (c : Channel) (t t' : State) : Prop :=
  (t.chan = s.chan ∧ t' = t.withChan c) ∨ t' = t

/-- An INIT that binds gives both blocks its channel; any other leaves them apart (R182, R183). -/
theorem exec_init_withChan (h : exec (.init k) s = .next t) :
    ∃ t', exec (.init k) (s.withChan c) = .next t' ∧ s.StaysApart c t t' := by
  cases exec_effect h with
  | halted hf => exact ⟨_, exec_init_of_halted (s := s.withChan c) hf, .inl ⟨rfl, rfl⟩⟩
  | answered haddr => cases haddr
  | bound _ hrun hi hk => exact ⟨_, exec_init_of_supported (s := s.withChan c) hrun hi hk, .inr rfl⟩
  | fatalInit _ hrun hi hk => exact ⟨_, exec_init_of_unsupported (s := s.withChan c) hrun hi hk, .inl ⟨rfl, rfl⟩⟩
  | initMisused _ hrun hi => exact ⟨_, exec_init_of_inited (s := s.withChan c) hrun hi, .inl ⟨rfl, rfl⟩⟩

theorem exec_staysApart (hread : i ≠ .rdInit) (h : exec i s = .next t) :
    ∃ t', exec i (s.withChan c) = .next t' ∧ s.StaysApart c t t' := by
  by_cases hinit : ∃ k, i = .init k
  · obtain ⟨k, rfl⟩ := hinit
    exact exec_init_withChan h
  · have hne : ∀ k, i ≠ .init k := not_exists.mp hinit
    obtain ⟨-, hchan⟩ : s.SameBinding t := (exec_binding h).resolve_right fun ⟨k, hk, _⟩ => hne k hk
    exact ⟨_, exec_withChan hne hread h, .inl ⟨hchan, rfl⟩⟩

/-- An illegal word does not look at CHAN (R200). -/
theorem State.illegal_withChan (s : State) (c : Channel) :
    (s.withChan c).unlessHalted ((s.withChan c).setFlag .illErr) =
      (s.unlessHalted (s.setFlag .illErr)).withChan c := by
  rw [State.setFlag_withChan, State.unlessHalted_withChan]

theorem runWord_staysApart (hread : decode w ≠ .op .rdInit) (h : runWord w s = .next t) :
    ∃ t', runWord w (s.withChan c) = .next t' ∧ s.StaysApart c t t' := by
  have hill : (s.unlessHalted (s.setFlag .illErr)).chan = s.chan := by
    rw [State.unlessHalted_setFlag_illErr]
  cases hd : decode w with
  | op i =>
    rw [runWord_of_op hd] at h ⊢
    exact exec_staysApart (fun hi => hread (hi ▸ hd)) h
  | illegal why =>
    rw [runWord_of_illegal hd] at h ⊢
    cases h
    exact ⟨_, rfl, .inl ⟨hill, s.illegal_withChan c⟩⟩
  | illegalRead why =>
    rw [runWord_of_illegalRead hd] at h ⊢
    cases h
    exact ⟨_, rfl, .inl ⟨hill, congrArg (State.emitRd 0x00) (s.illegal_withChan c)⟩⟩

/-! #### One cycle -/

/-- The next cycle presents a word that reads INITREG (R191). -/
def State.ReadsInit (s : State) : Prop :=
  s.pins.rst = false ∧ s.pins.opValid = true ∧ decode s.pins.opWord = .op .rdInit

/-- A cycle that does not read INITREG leaves two blocks apart in CHAN or the same, and a reset leaves them the same. -/
theorem step_staysApart (hn : ¬ s.ReadsInit) (h : step s = .next t) :
    ∃ t', step (s.withChan c) = .next t' ∧ s.StaysApart c t t' := by
  cases hr : s.pins.rst with
  | true =>
    rw [step_of_reset hr] at h
    cases h
    exact ⟨_, step_of_reset (s := s.withChan c) hr, .inr rfl⟩
  | false =>
    cases hv : s.pins.opValid with
    | false =>
      rw [step_of_idle hr hv] at h
      cases h
      exact ⟨_, step_of_idle (s := s.withChan c) hr hv, .inl ⟨rfl, rfl⟩⟩
    | true =>
      rw [step_of_word hr hv] at h
      rw [step_of_word (s := s.withChan c) hr hv]
      exact runWord_staysApart (s := s.beginCycle) (fun hd => hn ⟨hr, hv, hd⟩) h

/-- A cycle that reads INITREG answers it and does nothing else (R191). -/
theorem step_of_readsInit (h : s.ReadsInit) : step s = .next (s.beginCycle.emitRd s.initByte) := by
  obtain ⟨hr, hv, hd⟩ := h
  rw [step_of_word hr hv, runWord_of_op hd]
  rfl

/-- Settles O59: `step_staysApart`, and the read of INITREG answers each block with its own channel. -/
theorem channelDecidesNothing : Obligations.ChannelDecidesNothing := by
  intro s t c h
  by_cases hread : s.ReadsInit
  · rw [step_of_readsInit hread] at h
    cases h
    exact ⟨_, step_of_readsInit (s := s.withChan c) hread, rfl, .inl ⟨rfl, rfl⟩, absurd hread⟩
  · obtain ⟨t', ht', ⟨hchan, rfl⟩ | rfl⟩ := step_staysApart (c := c) hread h
    · exact ⟨_, ht', rfl, .inl ⟨rfl, hchan⟩, fun _ => rfl⟩
    · exact ⟨_, ht', rfl, .inr rfl, fun _ => rfl⟩

end Sys2Proof.Machine
end

section
/-!
PROOFS. The halted state (60_exceptions.md R214; 10_state.md R35): a word is answered if it is a read, and does nothing
else.
-/

namespace Sys2Proof.Machine

variable {r s t : State} {d : Decoded}

/-! #### The answer of a read -/

/-- What the word that decodes to `d` is answered with on `rdata`, if it is a read: a legal read with its register (R189),
an ILLEGAL_READ with 0x00 (R201). -/
def State.answerTo (s : State) : Decoded → Option Byte
  | .op i => i.readAddr.map s.regRead
  | .illegal _ => none
  | .illegalRead _ => some 0x00

theorem State.answerTo_of_not_isRead (s : State) (h : d.isRead = false) : s.answerTo d = none := by
  cases d with
  | op i =>
    have hnone : i.readAddr = none := by simpa [Decoded.isRead] using h
    simp [State.answerTo, hnone]
  | illegal why => rfl
  | illegalRead why => cases h

/-- A word of OPC 0x4 is answered with the register at ADDR when its payload is zero, with 0x00 when it is not (R74); a
reserved address reads as 0x00 too (R76). -/
theorem State.answerTo_decodeRead (s : State) (a : RegAddr) (v : Byte) :
    s.answerTo (decodeRead a v) = some (if v.toNat = 0 then s.regRead a else 0x00) := by
  unfold decodeRead
  split
  case isTrue hv => simp [State.answerTo, toNat_eq_zero_iff, hv]
  case isFalse hv =>
    rw [not_not.mp hv]
    split
    case h_11 => simp [State.answerTo, State.regRead, *]
    all_goals rfl

/-- The words answered are those of OPC 0x4 (R74, R214). -/
theorem State.answerTo_decode (s : State) (w : OpWord) :
    s.answerTo (decode w) =
      if w.toNat / 4096 = 4 then some (if w.toNat % 256 = 0 then s.regRead (addrField w) else 0x00) else none := by
  by_cases hopc : w.toNat / 4096 = 4
  · have hread : opcField w = 0x4#4 := BitVec.eq_of_toNat_eq ((opcField_toNat w).trans hopc)
    rw [if_pos hopc, decode_of_opc_read hread, s.answerTo_decodeRead, dataField_toNat]
  · rw [if_neg hopc]
    exact s.answerTo_of_not_isRead (by rwa [← Bool.not_eq_true, decode_isRead_iff])

/-! #### One cycle -/

/-- While halted a word is answered, if it is a read, and does nothing else (R214). -/
theorem Effect.of_halted (h : Effect s d t) (hf : s.fatal = true) : t = (s.answerTo d).elim s s.emitRd := by
  cases h with
  | halted _ hread => rw [s.answerTo_of_not_isRead hread]; rfl
  | nop => rfl
  | answered haddr => simp [State.answerTo, haddr, State.answerRead]
  | haltedIllegalRead => rfl
  | _ => -- the effects of a running block
    simp_all

/-- A cycle without reset while halted only ends the event outputs of the last one and answers its word, if that is a
read. -/
theorem step_of_halted (hf : s.fatal = true) (hr : s.pins.rst = false) (h : step s = .next t) :
    ∃ answer : Option Byte, t = answer.elim s.beginCycle s.beginCycle.emitRd ∧
      (s.pins.opValid = true → answer = s.answerTo (decode s.pins.opWord)) := by
  obtain ⟨hv, rfl⟩ | ⟨-, he⟩ := step_effect hr h
  · exact ⟨none, rfl, by simp [hv]⟩
  · exact ⟨_, he.of_halted hf, fun _ => rfl⟩

theorem step_keeps_halted (hf : s.fatal = true) (hr : s.pins.rst = false) (h : step s = .next t) : t.fatal = true := by
  obtain ⟨_ | v, rfl, -⟩ := step_of_halted hf hr h <;> exact hf

/-- Settles O18: the enables are low by R40 (e), and a word is answered as `State.answerTo_decode` says. -/
theorem haltedAnswersReadsOnly : Obligations.HaltedAnswersReadsOnly := by
  refine ⟨fun s p rest hs hf hin hr hv => ?_, fun s t => step_keeps_halted⟩
  obtain ⟨-, -, hadc, hout⟩ := hs.fatalIdle hf
  obtain ⟨t, ht⟩ := stepTotal s
  have hp : s.pins = p := State.pins_of_cons hin
  subst hp
  obtain ⟨answer, rfl, hanswer⟩ := step_of_halted hf hr ht
  refine ⟨hadc, hout, hf, _, ht, ?_, fun hopc => ?_, fun hopc => ?_⟩
  · rw [State.beginCycle_of_cons hin]
    cases answer <;> rfl
  · rw [hanswer hv, State.answerTo_decode, if_pos hopc]
    exact ⟨rfl, rfl⟩
  · rw [hanswer hv, State.answerTo_decode, if_neg hopc]
    exact ⟨rfl, rfl⟩

/-! #### Runs -/

/-- What a halted block keeps (R214): the state with `rdata`, the one-cycle outputs and the pins to come set aside. -/
def State.registers (s : State) : State := { s.settled with rdata := 0x00 }

theorem step_registers_of_halted (hf : s.fatal = true) (hr : s.pins.rst = false) (h : step s = .next t) :
    t.registers = s.registers := by
  obtain ⟨_ | v, rfl, -⟩ := step_of_halted hf hr h <;> rfl

/-- What lasts along a run from the halted block `r`: it is halted, no reset is to come and its registers are those of
`r`. -/
structure State.HaltedSince (r s : State) : Prop where
  fatal : s.fatal = true
  noReset : s.noReset = true
  registers : s.registers = r.registers

theorem State.HaltedSince.step (hs : r.HaltedSince s) (h : step s = .next t) : r.HaltedSince t := by
  have hr : s.pins.rst = false := pins_rst_of_noReset hs.noReset
  exact
    { fatal := step_keeps_halted hs.fatal hr h
      noReset := noReset_of_step hs.noReset h
      registers := (step_registers_of_halted hs.fatal hr h).trans hs.registers }

/-- Settles O19, by induction over the run: every cycle keeps the registers and leaves the block halted. -/
theorem haltedForever : Obligations.HaltedForever := by
  intro k s t hf hn h
  have ht : s.HaltedSince t := run_induction (fun _ _ hu => hu.step) k s t ⟨hf, hn, rfl⟩ h
  calc { t.settled with rdata := s.rdata }
      = { t.registers with rdata := s.rdata } := rfl
    _ = { s.registers with rdata := s.rdata } := by rw [ht.registers]
    _ = s.settled := rfl

end Sys2Proof.Machine
end

section
/-!
PROOFS. The error flags (60_exceptions.md R211 to R213, R219, R220): which one flag a word raises, and what clears it.
-/

namespace Sys2Proof.Machine

variable {s t : State} {d : Decoded} {c c' : ErrorFlag}

/-! #### The condition a word reports -/

/-- The condition that the word which decodes to `d` reports in the state `s`, if any, by the checks in their order
(R220). -/
def State.reports (s : State) (d : Decoded) : Option ErrorFlag :=
  if s.fatal = true then none else
  match d with
  | .illegal _ => some .illErr
  | .illegalRead _ => some .illErr
  | .op .startTx => if s.inited = false ∨ s.mode = .transmitting then some .protoErr else none
  | .op .stopTx => if s.inited = false ∨ s.mode = .receiving then some .protoErr else none
  | .op (.init k) =>
    if s.inited = true then some .protoErr else if s.params.nchan ≤ k.toNat then some .fatal else none
  | .op _ => none

theorem State.reports_of_halted (hf : s.fatal = true) : s.reports d = none := if_pos hf

/-- A read reports no condition. -/
theorem State.reports_of_readAddr {i : Instr} {a : RegAddr} (h : i.readAddr = some a) : s.reports (.op i) = none := by
  cases i with
  | startTx | stopTx | init => cases h
  | _ => exact ite_self _

/-- R211, R212 and R213: which words report which condition. -/
theorem State.reports_iff (s : State) (d : Decoded) :
    (s.reports d = some .protoErr ↔ s.fatal = false ∧
      ((d = .op .startTx ∧ (s.inited = false ∨ s.mode = .transmitting)) ∨
       (d = .op .stopTx ∧ (s.inited = false ∨ s.mode = .receiving)) ∨
       (∃ k, d = .op (.init k) ∧ s.inited = true))) ∧
    (s.reports d = some .illErr ↔ s.fatal = false ∧ ((∃ why, d = .illegal why) ∨ ∃ why, d = .illegalRead why)) ∧
    (s.reports d = some .fatal ↔ s.fatal = false ∧
      ∃ k : Byte, d = .op (.init k) ∧ s.inited = false ∧ s.params.nchan ≤ k.toNat) := by
  cases hf : s.fatal with
  | true => simp [State.reports_of_halted hf]
  | false =>
    cases d with
    | illegal why => simp [State.reports, hf]
    | illegalRead why => simp [State.reports, hf]
    | op i =>
      cases i with
      | startTx | stopTx | init => cases hi : s.inited <;> simp [State.reports, hf, hi]
      | _ => simp [State.reports, hf]

/-! #### The flags after a word -/

/-- The STATUS bit of a condition (R210). -/
def State.flag (s : State) : ErrorFlag → Bool
  | .protoErr => s.protoErr
  | .illErr => s.illErr
  | .fatal => s.fatal

theorem State.flag_setFlag (s : State) (c c' : ErrorFlag) : (s.setFlag c).flag c' = (s.flag c' || c == c') := by
  obtain ⟨hproto, hill, hfatal⟩ := s.setFlag_flags c
  cases c' <;> assumption

/-- `t` has the flags of `s`, and that of the condition which the word reports, if any, set as well (R210). -/
def State.Records (s : State) (d : Decoded) (t : State) : Prop :=
  ∀ c, t.flag c = (s.flag c || s.reports d == some c)

theorem State.Records.of_none (hd : s.reports d = none) (ht : t.flag = s.flag) : s.Records d t := fun c => by
  simp [hd, ht]

theorem State.Records.setFlag (hd : s.reports d = some c) : s.Records d (s.setFlag c) := fun c' => by
  simp [hd, State.flag_setFlag]

/-- A word sets the flag of the condition it reports and no other, and only a CLR_ERR clears any (R210, R219). -/
theorem Effect.records (h : Effect s d t) :
    s.Records d t ∨ (s.fatal = false ∧ d = .op .clrErr ∧ t = s.clearErrors) := by
  cases h with
  | cleared hrun => exact .inr ⟨hrun, rfl, rfl⟩
  | halted hhalt => exact .inl (.of_none (State.reports_of_halted hhalt) rfl)
  | haltedIllegalRead _ hhalt => exact .inl (.of_none (State.reports_of_halted hhalt) rfl)
  | answered haddr => exact .inl (.of_none (State.reports_of_readAddr haddr) rfl)
  | illegal _ hrun | illegalRead _ hrun => exact .inl (.setFlag (by simp [State.reports, hrun]))
  | startMisused hrun hmis | stopMisused hrun hmis => exact .inl (.setFlag (by simp [State.reports, hrun, hmis]))
  | initMisused _ hrun hi => exact .inl (.setFlag (by simp [State.reports, hrun, hi]))
  | fatalInit k hrun hi hk =>
    have hk : s.params.nchan ≤ k.toNat := not_lt.mp (of_decide_eq_false hk)
    exact .inl (.setFlag (by simp [State.reports, hrun, hi, hk]))
  | bound k hrun hi hk =>
    have hk : ¬ s.params.nchan ≤ k.toNat := not_le.mpr (of_decide_eq_true hk)
    exact .inl (.of_none (by simp [State.reports, hrun, hi, hk]) rfl)
  | keyed hrun hi hm | unkeyed hrun hi hm => exact .inl (.of_none (by simp [State.reports, hi, hm]) rfl)
  | _ => exact .inl (.of_none (ite_self _) rfl)

/-- A clear flag is raised by exactly the words that report its condition. -/
theorem Effect.flag_rises_iff (h : Effect s d t) (hc : s.flag c = false) :
    t.flag c = true ↔ s.reports d = some c := by
  obtain hrec | ⟨-, rfl, rfl⟩ := h.records
  · simp [hrec c, hc]
  · have hclear : s.clearErrors.flag c = false := by
      cases c with
      | protoErr | illErr => rfl
      | fatal => exact hc
    have hnone : s.reports (.op .clrErr) = none := ite_self _
    simp [hclear, hnone]

/-- FATAL is never cleared, and the other flags only by a CLR_ERR while running (R184, R219). -/
theorem Effect.flag_stays (h : Effect s d t) (hc : s.flag c = true)
    (hkeep : c = .fatal ∨ s.fatal = true ∨ d ≠ .op .clrErr) : t.flag c = true := by
  obtain hrec | ⟨hrun, hd, rfl⟩ := h.records
  · simp [hrec c, hc]
  · obtain rfl | hf | hne := hkeep
    · exact hc
    · simp [hrun] at hf
    · exact absurd hd hne

/-! #### The flags after a cycle -/

theorem step_flag_rises_iff (hr : s.pins.rst = false) (h : step s = .next t) (hc : s.flag c = false) :
    t.flag c = true ↔ s.pins.opValid = true ∧ s.reports (decode s.pins.opWord) = some c := by
  obtain ⟨hv, rfl⟩ | ⟨hv, he⟩ := step_effect hr h
  · have hidle : s.beginCycle.flag c = false := hc
    simp [hv, hidle]
  · rw [he.flag_rises_iff hc, and_iff_right hv]
    rfl

theorem step_flag_stays (hr : s.pins.rst = false) (h : step s = .next t) (hc : s.flag c = true)
    (hkeep : c = .fatal ∨ s.fatal = true ∨ ¬(s.pins.opValid = true ∧ decode s.pins.opWord = .op .clrErr)) :
    t.flag c = true := by
  obtain ⟨-, rfl⟩ | ⟨hv, he⟩ := step_effect hr h
  · exact hc
  · exact he.flag_stays hc (hkeep.imp_right (Or.imp_right fun hn hd => hn ⟨hv, hd⟩))

/-- A cycle raises at most one flag: a reset raises none, and a word reports at most one condition (R220). -/
theorem step_raises_one (h : step s = .next t) (hc : s.flag c = false ∧ t.flag c = true)
    (hc' : s.flag c' = false ∧ t.flag c' = true) : c = c' := by
  cases hr : s.pins.rst with
  | true =>
    rw [step_of_reset hr] at h
    cases h
    cases c <;> cases hc.2
  | false =>
    obtain ⟨-, hrep⟩ := (step_flag_rises_iff hr h hc.1).mp hc.2
    obtain ⟨-, hrep'⟩ := (step_flag_rises_iff hr h hc'.1).mp hc'.2
    exact Option.some.inj (hrep.symm.trans hrep')

/-- Settles O54: a flag rises in the cycles that report its condition, which are those of `State.reports_iff`. -/
theorem errorFlagSetters : Obligations.ErrorFlagSetters := by
  intro s t hr h
  obtain ⟨hproto, hill, hfatal⟩ := s.reports_iff (decode s.pins.opWord)
  refine ⟨fun hc => ?_, fun hc => ?_, fun hc => ?_⟩
  · rw [and_left_comm, ← hproto]
    exact step_flag_rises_iff (c := .protoErr) hr h hc
  · rw [and_left_comm, ← hill]
    exact step_flag_rises_iff (c := .illErr) hr h hc
  · rw [hc, eq_self, true_and] at hfatal
    rw [← hfatal]
    exact step_flag_rises_iff (c := .fatal) hr h hc

/-- Of three conditions that exclude each other at most one holds. -/
theorem count_le_one_of_exclusive {p q r : Prop} [Decidable p] [Decidable q] [Decidable r] (hpq : p → ¬ q)
    (hpr : p → ¬ r) (hqr : q → ¬ r) :
    (if p then 1 else 0) + (if q then 1 else 0) + (if r then 1 else 0) ≤ 1 := by
  by_cases hp : p
  · simp [hp, hpq hp, hpr hp]
  · by_cases hq : q
    · simp [hp, hq, hqr hq]
    · rw [if_neg hp, if_neg hq]
      split <;> decide

/-- Settles O55: no two flags rise in one cycle by `step_raises_one`, and what is set stays by `step_flag_stays`. -/
theorem errorFlagsAccumulate : Obligations.ErrorFlagsAccumulate := by
  intro s t h
  refine ⟨count_le_one_of_exclusive (fun hp hi => ?_) (fun hp hf => ?_) (fun hi hf => ?_),
    fun hr => ⟨fun hf => ?_, fun hkeep => ⟨fun hp => ?_, fun hi => ?_⟩⟩⟩
  · cases step_raises_one (c := .protoErr) (c' := .illErr) h hp hi
  · cases step_raises_one (c := .protoErr) (c' := .fatal) h hp hf
  · cases step_raises_one (c := .illErr) (c' := .fatal) h hi hf
  · exact step_flag_stays (c := .fatal) hr h hf (.inl rfl)
  · exact step_flag_stays (c := .protoErr) hr h hp (.inr hkeep)
  · exact step_flag_stays (c := .illErr) hr h hi (.inr hkeep)

end Sys2Proof.Machine
end

section
/-!
PROOFS. Reset and the strap (70_reset_and_hazards.md R240, R245; 10_state.md R20, R36).
-/

namespace Sys2Proof.Machine

variable {s : State} {p : PinsIn} {rest : List PinsIn}

/-! #### The pins of a cycle -/

/-- A cycle with its pins at the head of the inputs (R202, R240). -/
theorem step_of_cons (h : s.inputs = p :: rest) : step s = cycleWith p s.beginCycle := by
  rw [step, nextCycle, State.pins_of_cons h]

/-- A reset edge processes no word and loads STRAT from its strap (R240). -/
theorem step_of_reset_cons (h : s.inputs = p :: rest) (hr : p.rst = true) :
    step s = .next (s.beginCycle.applyReset p.stratSel) := by
  rw [step_of_cons h, cycleWith, if_pos hr]

/-- Outside a reset cycle the strap is not read (R245). -/
theorem cycleWith_stratSel (hr : p.rst = false) (b : Bool) (s : State) :
    cycleWith { p with stratSel := b } s = cycleWith p s := by
  simp [cycleWith, hr]

/-! #### Reset -/

/-- Every entry of the ring reads as -128 after reset (R21). -/
theorem State.applyReset_ring_toInt (s : State) (b : Bool) (j : Fin 32) : (s.applyReset b).ring[j].toInt = -128 := by
  rw [State.applyReset_ring, Fin.getElem_fin, Vector.getElem_replicate]
  rfl

/-- Settles O11: a reset edge is `State.applyReset`, and a cycle without reset keeps a halted block halted. -/
theorem stepReset : Obligations.StepReset := by
  refine ⟨fun s p rest hin hr => ⟨_, step_of_reset_cons hin hr, State.applyReset_ring_toInt _ _, ?_⟩,
    fun s t h hf ht => ?_⟩
  · simp [hin, Strategy.ofStrap]
  · by_contra hr
    have hkeep : t.fatal = true := step_keeps_halted hf (by simpa using hr) h
    simp [hkeep] at ht

/-! #### The strap -/

/-- Settles O13: a cycle without reset reads no strap and keeps STRAT, and so does a run of such cycles. -/
theorem strapSampledAtResetOnly : Obligations.StrapSampledAtResetOnly := by
  refine ⟨fun s p rest b hr => ?_, run_accepted_induction (R := fun s _ t => t.strat = s.strat) (fun s => rfl)
    fun s u t as hr hu ih => ih.trans (step_strategy hr hu).1⟩
  rw [step_of_cons rfl, step_of_cons rfl]
  exact cycleWith_stratSel hr b _

end Sys2Proof.Machine
end

section
/-!
PROOFS. The order of the host's operations (70_reset_and_hazards.md R247, R251): a read after a write, and what works
before INIT.
-/

namespace Sys2Proof.Machine

variable {s u : State} {i j : Instr} {a : RegAddr} {v : Byte} {rest : List PinsIn}

/-! #### Operations in order -/

/-- A legal read is answered with the register at its address (R189). -/
theorem exec_of_readAddr (h : i.readAddr = some a) (s : State) : exec i s = .next (s.answerRead a) := by
  cases i with
  | rdCmd | rdInit | rdGain | rdThresh | rdStatus | rdPtp | rdConfig | rdDuty | rdPort | rdCond => cases h; rfl
  | _ => cases h

theorem exec_wrPort_of_running (hrun : s.fatal = false) :
    exec (.wrPort v) s = .next { s with port := portFromHost s.params.dacMask s.port v } := by
  rw [exec_wrPort, State.unlessHalted_of_running hrun]

/-- A cycle that presents the word of an operation does the operation (R202). -/
theorem step_of_encode_cons (h : s.inputs = .word (encode i) :: rest) : step s = exec i s.beginCycle := by
  rw [step_of_word_cons h rfl rfl]
  exact runWord_of_op (decodeOfEncode i)

/-- A legal read in the cycle after an operation is answered from the state which that operation leaves (R251). -/
theorem run_read_after (ha : j.readAddr = some a)
    (hi : exec i (s.feeding [encode i, encode j]).beginCycle = .next u) :
    core.run 2 (s.feeding [encode i, encode j]) = .next (u.beginCycle.answerRead a) := by
  have hin : u.inputs = [.word (encode j)] := (exec_effect hi).inputs_eq
  rw [run_succ_of_step ((step_of_encode_cons rfl).trans hi),
    run_succ_of_step ((step_of_encode_cons hin).trans (exec_of_readAddr ha _)), run_zero]

/-- Settles O53: the write leaves the value in the register that the read answers. -/
theorem readAfterWrite : Obligations.ReadAfterWrite := by
  intro s v hrun
  obtain ⟨hgain, hthresh⟩ := writeGainThresh
  exact ⟨⟨_, run_read_after rfl (hgain _ v hrun), rfl, rfl⟩, ⟨_, run_read_after rfl (hthresh _ v hrun), rfl, rfl⟩,
    ⟨_, run_read_after rfl (exec_wrPort_of_running hrun), rfl, rfl⟩⟩

/-! #### Before INIT -/

/-- The host's write sets the bits of PORT outside the mask (R188). -/
theorem portFromHost_and_not (mask port v : Byte) : portFromHost mask port v &&& ~~~mask = v &&& ~~~mask := by
  ext j hj
  cases hm : mask[j] <;> simp [portFromHost, hm]

/-- Settles O47: both enables are low by R40 (b) to (d), and the host's writes and reads do not depend on INIT. -/
theorem beforeInit : Obligations.BeforeInit := by
  intro s hs hrun hi
  obtain ⟨-, hadc, hout⟩ := hs.idle_of_not_inited hi
  obtain ⟨hstart, hstop⟩ := commandMisuse
  obtain ⟨hgain, hthresh⟩ := writeGainThresh
  refine ⟨fun adc => exec_sample_of_not_accepting (.inr hadc), fun b => exec_tick_of_not_accepting (.inr hout),
    hstart s hrun (.inl hi), hstop s hrun (.inl hi), fun v => ⟨_, hgain s v hrun, rfl⟩,
    fun v => ⟨_, hthresh s v hrun, rfl⟩, fun v => ⟨_, exec_wrPort_of_running hrun, portFromHost_and_not _ _ _⟩,
    fun q hq => exec_of_readAddr (a := q.2) ?_ s⟩
  revert q
  decide

end Sys2Proof.Machine
end
